-- ==== Sys2Proof/Word.lean ====
section
/-! DEFINITION. The word and byte types (00_scope.md R7, R8). -/

namespace Sys2Proof

/-- A register or bus data value: 32 bits, bit 0 the least significant (R7). -/
abbrev Word := BitVec 32

/-- One element of a FIFO, one byte of the transport (R42, R78). -/
abbrev Byte := BitVec 8

end Sys2Proof
end

