-- ==== Sys2Proof/Config.lean ====
section
/-! DEFINITION. The configuration record of 00_scope.md R6 and the free values. The record is fixed at
construction; its default values stand in Sys2Proof/Machine/Defaults.lean. -/

namespace Sys2Proof

/-- A named field of a register that is wider than one bit: bits `lsb + width - 1` down to `lsb`. -/
structure Field where
  lsb   : Nat
  width : Nat
  deriving DecidableEq, Repr

/-- INTR_STATE, INTR_ENABLE and INTR_TEST each have these two bits (R25, R26, R27). -/
structure IntrLayout where
  error    : Nat
  spiEvent : Nat
  deriving DecidableEq, Repr

/-- ALERT_TEST (R28). -/
structure AlertTestLayout where
  fatalFault : Nat
  deriving DecidableEq, Repr

/-- CONTROL (R29). -/
structure ControlLayout where
  rxWatermark : Field
  txWatermark : Field
  outputEn    : Nat
  swRst       : Nat
  spien       : Nat
  deriving DecidableEq, Repr

/-- STATUS (R30). -/
structure StatusLayout where
  txqd      : Field
  rxqd      : Field
  cmdqd     : Field
  rxwm      : Nat
  byteorder : Nat
  rxstall   : Nat
  rxempty   : Nat
  rxfull    : Nat
  txwm      : Nat
  txstall   : Nat
  txempty   : Nat
  txfull    : Nat
  active    : Nat
  ready     : Nat
  deriving DecidableEq, Repr

/-- CONFIGOPTS (R31). -/
structure ConfigoptsLayout where
  clkdiv   : Field
  csnidle  : Field
  csntrail : Field
  csnlead  : Field
  fullcyc  : Nat
  cpha     : Nat
  cpol     : Nat
  deriving DecidableEq, Repr

/-- COMMAND (30_encoding.md R103): LEN is bits `lenWidth - 1` down to 0. -/
structure CommandLayout where
  lenWidth  : Nat
  csaat     : Nat
  speed     : Field
  direction : Field
  deriving DecidableEq, Repr

/-- ERROR_ENABLE (R39). -/
structure ErrorEnableLayout where
  cmdbusy   : Nat
  overflow  : Nat
  underflow : Nat
  cmdinval  : Nat
  csidinval : Nat
  deriving DecidableEq, Repr

/-- ERROR_STATUS (R40). -/
structure ErrorStatusLayout where
  cmdbusy     : Nat
  overflow    : Nat
  underflow   : Nat
  cmdinval    : Nat
  csidinval   : Nat
  accessinval : Nat
  deriving DecidableEq, Repr

/-- EVENT_ENABLE (R41). -/
structure EventEnableLayout where
  rxfull  : Nat
  txempty : Nat
  rxwm    : Nat
  txwm    : Nat
  ready   : Nat
  idle    : Nat
  deriving DecidableEq, Repr

/-- `LAYOUT` of R6: the position of every named field of every register. -/
structure Layout where
  intrState   : IntrLayout
  intrEnable  : IntrLayout
  intrTest    : IntrLayout
  alertTest   : AlertTestLayout
  control     : ControlLayout
  status      : StatusLayout
  configopts  : ConfigoptsLayout
  command     : CommandLayout
  errorEnable : ErrorEnableLayout
  errorStatus : ErrorStatusLayout
  eventEnable : EventEnableLayout
  deriving DecidableEq, Repr

/-- The configuration record `cfg` of R6. REG_WIDTH is the 32 of `Word`; RX_POP is the 4 of R164
(`Machine.rxPop`); DELAY is `Config.delay`. -/
structure Config where
  /-- NUM_CS, the chip-select count. -/
  numCs          : Nat
  /-- TX_CAP, the transmit FIFO's capacity in bytes. -/
  txCap          : Nat
  /-- RX_CAP, the receive FIFO's capacity in bytes. -/
  rxCap          : Nat
  /-- OFF_TXDATA. -/
  offTxdata      : Word
  /-- OFF_RXDATA. -/
  offRxdata      : Word
  /-- OFF_EVENT_ENABLE. -/
  offEventEnable : Word
  /-- LAYOUT. -/
  layout         : Layout
  deriving DecidableEq, Repr

/-- DELAY (R6, D18): the fixed delay between acceptance and completion. The document gives it no value
and no unit, and no rule reads it (R286), so nothing in this model does. -/
opaque Config.delay : Nat

/-- FREE VALUE (20_memory.md R78, D31; log entry 7): the byte the transport answers to an `exchange`,
given the exchanges made before it and the byte sent. A statement about it holds for every transport. -/
opaque Config.transport : List (Byte × Byte) → Byte → Byte

end Sys2Proof
end

