-- ==== Sys2Proof/Syntax.lean ====
section
/-! DEFINITION. The fourteen registers, the 32 operations (30_encoding.md R100) and the raw step request
(R101). -/

namespace Sys2Proof

/-- The closed list of registers (10_state.md R20, R24), in the order of R24. -/
inductive Reg where
  | intrState | intrEnable | intrTest | alertTest | control | status | configopts | csid | command
  | txdata | rxdata | errorEnable | errorStatus | eventEnable
  deriving DecidableEq, Repr

/-- The fourteen registers in the order of R24. -/
def Reg.all : List Reg :=
  [.intrState, .intrEnable, .intrTest, .alertTest, .control, .status, .configopts, .csid, .command,
   .txdata, .rxdata, .errorEnable, .errorStatus, .eventEnable]

/-- One operation of the block, one constructor per row of opcode_table.json. `v` is the written word,
`off` the offset of a bad-offset access. -/
inductive Instr where
  | rdIntrState
  | wrIntrState (v : Word)
  | rdIntrEnable
  | wrIntrEnable (v : Word)
  | rdIntrTest
  | wrIntrTest (v : Word)
  | rdAlertTest
  | wrAlertTest (v : Word)
  | rdControl
  | wrControl (v : Word)
  | rdStatus
  | wrStatus (v : Word)
  | rdConfigopts
  | wrConfigopts (v : Word)
  | rdCsid
  | wrCsid (v : Word)
  | rdCommand
  | wrCommand (v : Word)
  | rdTxdata
  | wrTxdata (v : Word)
  | rdRxdata
  | wrRxdata (v : Word)
  | rdErrorEnable
  | wrErrorEnable (v : Word)
  | rdErrorStatus
  | wrErrorStatus (v : Word)
  | rdEventEnable
  | wrEventEnable (v : Word)
  | rdBad (off : Word)
  | wrBad (off : Word) (v : Word)
  | complete
  | reset
  deriving DecidableEq, Repr

/-- A step request as it reaches the block: the step code `SC = {kind[1:0], we, off[31:0]}` of R101 in
bits 34 to 0 of `code`, rounded up to whole bytes (bits 39 to 35 are 0 in every code), and the data word,
which is an operand and no part of the code. -/
structure Request where
  code  : BitVec 40
  wdata : Word
  deriving DecidableEq, Repr

/-- `RD.<REG>` for a register (R10). -/
def Instr.read : Reg → Instr
  | .intrState => .rdIntrState
  | .intrEnable => .rdIntrEnable
  | .intrTest => .rdIntrTest
  | .alertTest => .rdAlertTest
  | .control => .rdControl
  | .status => .rdStatus
  | .configopts => .rdConfigopts
  | .csid => .rdCsid
  | .command => .rdCommand
  | .txdata => .rdTxdata
  | .rxdata => .rdRxdata
  | .errorEnable => .rdErrorEnable
  | .errorStatus => .rdErrorStatus
  | .eventEnable => .rdEventEnable

/-- `WR.<REG>` for a register and a word (R10). -/
def Instr.write : Reg → Word → Instr
  | .intrState => .wrIntrState
  | .intrEnable => .wrIntrEnable
  | .intrTest => .wrIntrTest
  | .alertTest => .wrAlertTest
  | .control => .wrControl
  | .status => .wrStatus
  | .configopts => .wrConfigopts
  | .csid => .wrCsid
  | .command => .wrCommand
  | .txdata => .wrTxdata
  | .rxdata => .wrRxdata
  | .errorEnable => .wrErrorEnable
  | .errorStatus => .wrErrorStatus
  | .eventEnable => .wrEventEnable

end Sys2Proof
end

