-- ==== Sys2Proof/Machine/Defaults.lean ====
section
/-! DEFINITION. The default configuration (00_scope.md R6 and the default layout of 10_state.md R25 to
R41 and 30_encoding.md R103) and the two reset literals. -/

namespace Sys2Proof.Machine

/-- The default `LAYOUT`: the tables of R25 to R30, R31, R39 to R41 and R103 (log entry 2). -/
def defaultLayout : Layout where
  intrState   := { error := 0, spiEvent := 1 }
  intrEnable  := { error := 0, spiEvent := 1 }
  intrTest    := { error := 0, spiEvent := 1 }
  alertTest   := { fatalFault := 0 }
  control     := { rxWatermark := ⟨0, 8⟩, txWatermark := ⟨8, 8⟩, outputEn := 29, swRst := 30, spien := 31 }
  status      := { txqd := ⟨0, 8⟩, rxqd := ⟨8, 8⟩, cmdqd := ⟨16, 4⟩, rxwm := 20, byteorder := 22,
                   rxstall := 23, rxempty := 24, rxfull := 25, txwm := 26, txstall := 27, txempty := 28,
                   txfull := 29, active := 30, ready := 31 }
  configopts  := { clkdiv := ⟨0, 16⟩, csnidle := ⟨16, 4⟩, csntrail := ⟨20, 4⟩, csnlead := ⟨24, 4⟩,
                   fullcyc := 29, cpha := 30, cpol := 31 }
  command     := { lenWidth := 9, csaat := 9, speed := ⟨10, 2⟩, direction := ⟨12, 2⟩ }
  errorEnable := { cmdbusy := 0, overflow := 1, underflow := 2, cmdinval := 3, csidinval := 4 }
  errorStatus := { cmdbusy := 0, overflow := 1, underflow := 2, cmdinval := 3, csidinval := 4,
                   accessinval := 5 }
  eventEnable := { rxfull := 0, txempty := 1, rxwm := 2, txwm := 3, ready := 4, idle := 5 }

/-- The configuration that stands in State.reset: the defaults of R6 and, for the three open naturals,
the values 95_test_vectors.md uses where a vector names no other (log entries 1 and 3). -/
def defaultConfig : Config where
  numCs          := 2
  txCap          := 288
  rxCap          := 256
  offTxdata      := 0x24
  offRxdata      := 0x28
  offEventEnable := 0x34
  layout         := defaultLayout

/-- CONTROL after RESET (R29, R260). -/
def resetControl : Word := 0x0000007F

/-- ERROR_ENABLE after RESET (R39, R260). -/
def resetErrorEnable : Word := 0x0000001F

end Sys2Proof.Machine
end

