-- ==== Sys2Proof/Machine/Types.lean ====
section
/-! DEFINITION. The small types that State is made of: the engine (10_state.md R44) and the diagnostics
(60_exceptions.md R250). -/

namespace Sys2Proof.Machine

/-- The command state machine: idle, or one accepted command with its latched segment length, whose one
completion is scheduled with the timer service (R44). -/
inductive Engine where
  | ready
  | busy (n : Nat)
  deriving DecidableEq, Repr

/-- The features of an `Unimp` diagnostic (R250). -/
inductive Feature where
  | alertTest | swRst | outputEn | csaat | speed | direction | configopts | event
  deriving DecidableEq, Repr

/-- A diagnostic (R250). -/
inductive Diag where
  /-- `BadOffset(read, off)` -/
  | badRead (off : Word)
  /-- `BadOffset(write, off)` -/
  | badWrite (off : Word)
  /-- `Unimp(feature)` -/
  | unimp (f : Feature)
  deriving DecidableEq, Repr

end Sys2Proof.Machine
end

