-- ==== Sys2Proof/Machine/State.lean ====
section
/-! DEFINITION. The state of one instance of the block (10_state.md R22), the observations beside it (R49,
R250), and the model's own fields: the configuration, the last reply, the transport's answers and the
step requests to come (R47). -/

namespace Sys2Proof.Machine

structure State where
  /-- R6: the configuration record, changed by no step. -/
  cfg         : Config
  /-- R25 -/
  intrState   : Word
  /-- R26 -/
  intrEnable  : Word
  /-- R27 -/
  intrTest    : Word
  /-- R28 -/
  alertTest   : Word
  /-- R29 -/
  control     : Word
  /-- R31, R43: one CONFIGOPTS word per chip-select. -/
  configTable : List Word
  /-- R32 -/
  csid        : Word
  /-- R33: the last accepted COMMAND word. -/
  command     : Word
  /-- R39 -/
  errorEnable : Word
  /-- R40 -/
  errorStatus : Word
  /-- R41 -/
  eventEnable : Word
  /-- R42: the transmit FIFO, oldest byte first. -/
  tx          : List Byte
  /-- R42: the receive FIFO, oldest byte first. -/
  rx          : List Byte
  /-- R44 -/
  engine      : Engine
  /-- R49: (sent, received), in call order; cleared by nothing. -/
  xlog        : List (Byte × Byte)
  /-- R250: the diagnostics emitted, oldest first; read by nothing. -/
  diags       : List Diag
  /-- R101: the word the last step returned to the host, if it was a read (log entry 8). -/
  reply       : Option Word
  /-- R78: what the transport answers to the next exchanges, in call order (log entry 7). -/
  answers     : List Byte
  /-- R101, R47: the step requests to come, in order (log entry 4). -/
  inbox       : List Request
  deriving DecidableEq, Repr

/-- Why the machine stops with a fault. The block itself has no fault state (R287). -/
inductive Fault where
  /-- Raised by RD.CONFIGOPTS and WR.CONFIGOPTS when the table has no entry at CSID. R23 (a) says that no
  run reaches such a state. Safe: the machine stops where the spec says nothing (log entry 10). -/
  | noTableEntry
  deriving DecidableEq, Repr

/-- Why a step is refused. -/
inductive Refusal where
  /-- Raised by `exec` for an operation that has no meaning yet. Safe. -/
  | notModelled (mnemonic : String)
  /-- Raised by COMPLETE while the engine is READY, where it is not enabled (R187). Safe (log entry 6). -/
  | completeNotEnabled
  /-- Raised by `step` for a request that is no step code (R101). Safe (log entry 11). -/
  | undecodable
  deriving DecidableEq, Repr

/-- The state right after construction with a configuration (R22, R260, R263). -/
def State.resetOf (c : Config) : State where
  cfg         := c
  intrState   := 0
  intrEnable  := 0
  intrTest    := 0
  alertTest   := 0
  control     := resetControl
  configTable := List.replicate c.numCs 0
  csid        := 0
  command     := 0
  errorEnable := resetErrorEnable
  errorStatus := 0
  eventEnable := 0
  tx          := []
  rx          := []
  engine      := .ready
  xlog        := []
  diags       := []
  reply       := none
  answers     := []
  inbox       := []

/-- The state right after reset, under the default configuration (R263; log entry 1). -/
def State.reset : State := State.resetOf defaultConfig

end Sys2Proof.Machine
end

