-- ==== Sys2Proof/Machine/Operands.lean ====
section
/-! DEFINITION. Field access (00_scope.md R7), the operand assembled from a COMMAND word (30_encoding.md
R104), the byte of a TXDATA word and the packing of an RXDATA word (20_memory.md R72), and the FIFO
primitives (41_fifo_data.md R160, R161). -/

namespace Sys2Proof.Machine

/-- `v[i] = 1` (R7). -/
def bitSet (v : Word) (i : Nat) : Bool := v.getLsbD i

/-- The word with only bit `i` set. -/
def bitMask (i : Nat) : Word := BitVec.twoPow 32 i

/-- `v.F`, the unsigned value of a field (R7). -/
def fieldVal (f : Field) (v : Word) : Nat := (v.extractLsb' f.lsb f.width).toNat

/-- A word that is 0 but for the field, which holds `n`. -/
def fieldWord (f : Field) (n : Nat) : Word := BitVec.ofNat 32 n <<< f.lsb

/-- A word that is 0 but for bit `i`, which is 1 when `b`. -/
def flagWord (b : Bool) (i : Nat) : Word := if b then bitMask i else 0

/-- `a & ~v`: write-1-to-clear (R11, R142). -/
def clearOnes (a v : Word) : Word := a &&& ~~~v

/-- The field LEN of a COMMAND word (R103). -/
def lenField (c : Config) : Field := ⟨0, c.layout.command.lenWidth⟩

/-- `n = zext(wdata[LEN_WIDTH−1:0])`: a count of bytes, used as it stands (R104). -/
def segmentLength (c : Config) (v : Word) : Nat := fieldVal (lenField c) v

/-- Bits 7:0 of a word written to TXDATA (R72, R162). -/
def lowByte (v : Word) : Byte := v.setWidth 8

/-- `zext_32(b)` (R8). -/
def zext (b : Byte) : Word := b.setWidth 32

/-- `push(q, cap, b)`: false and no change if the queue is full, else appended at the back (R160). -/
def push (q : List Byte) (cap : Nat) (b : Byte) : Bool × List Byte :=
  if q.length = cap then (false, q) else (true, q ++ [b])

/-- `pop(q)`: the front byte, the oldest, and the queue without it (R161). -/
def pop (q : List Byte) : Option (Byte × List Byte) :=
  match q with
  | [] => none
  | b :: rest => some (b, rest)

/-- RX_POP: the bytes one RXDATA read pops at most (R6, D11). -/
def rxPop : Nat := 4

/-- The loop of R164 with `k` iterations left, the next one at byte lane `i`, the word so far `w`: it stops
where the queue is empty. -/
def popLanes : Nat → Nat → Word → List Byte → Word × List Byte
  | 0, _, w, q => (w, q)
  | k + 1, i, w, q =>
    match pop q with
    | none => (w, q)
    | some (b, rest) => popLanes k (i + 1) (w ||| (zext b <<< (8 * i))) rest

end Sys2Proof.Machine
end

