-- ==== Sys2Proof/Machine/Flags.lean ====
section
/-! DEFINITION. The derived STATUS word (10_state.md R36, R38), the two cause functions of the interrupt
evaluator (60_exceptions.md R230, R231) and the two line outputs (10_state.md R48). -/

namespace Sys2Proof.Machine

/-- `ceil(n/4)` clamped to a field of `width` bits (R36). -/
def qd (width n : Nat) : Nat := min ((n + 3) / 4) (2 ^ width - 1)

/-- STATUS.RXEMPTY (R36). -/
def statusRxempty (s : State) : Bool := decide (s.rx.length = 0)

/-- STATUS.RXFULL (R36). -/
def statusRxfull (s : State) : Bool := decide (s.rx.length = s.cfg.rxCap)

/-- STATUS.TXEMPTY (R36). -/
def statusTxempty (s : State) : Bool := decide (s.tx.length = 0)

/-- STATUS.TXFULL (R36). -/
def statusTxfull (s : State) : Bool := decide (s.tx.length = s.cfg.txCap)

/-- STATUS.READY (R36). -/
def statusReady (s : State) : Bool := decide (s.engine = .ready)

/-- STATUS.TXQD (R36). -/
def statusTxqd (s : State) : Nat := qd s.cfg.layout.status.txqd.width s.tx.length

/-- STATUS.RXQD (R36). -/
def statusRxqd (s : State) : Nat := qd s.cfg.layout.status.rxqd.width s.rx.length

/-- `STATUS(s)`: the derived status word; every field not named here is 0 (R36, R38). -/
def statusWord (s : State) : Word :=
  fieldWord s.cfg.layout.status.txqd (statusTxqd s) |||
  fieldWord s.cfg.layout.status.rxqd (statusRxqd s) |||
  flagWord (statusRxempty s) s.cfg.layout.status.rxempty |||
  flagWord (statusRxfull s) s.cfg.layout.status.rxfull |||
  flagWord (statusTxempty s) s.cfg.layout.status.txempty |||
  flagWord (statusTxfull s) s.cfg.layout.status.txfull |||
  flagWord (statusReady s) s.cfg.layout.status.ready

/-- `err_cause` of R230. -/
def errCause (s : State) : Bool :=
  bitSet s.intrTest s.cfg.layout.intrTest.error ||
  (bitSet s.errorEnable s.cfg.layout.errorEnable.cmdbusy &&
    bitSet s.errorStatus s.cfg.layout.errorStatus.cmdbusy) ||
  (bitSet s.errorEnable s.cfg.layout.errorEnable.cmdinval &&
    bitSet s.errorStatus s.cfg.layout.errorStatus.cmdinval) ||
  (bitSet s.errorEnable s.cfg.layout.errorEnable.csidinval &&
    bitSet s.errorStatus s.cfg.layout.errorStatus.csidinval)

/-- `evt_cause` of R230. -/
def evtCause (s : State) : Bool :=
  bitSet s.intrTest s.cfg.layout.intrTest.spiEvent ||
  (bitSet s.eventEnable s.cfg.layout.eventEnable.ready && statusReady s) ||
  (bitSet s.eventEnable s.cfg.layout.eventEnable.txempty && statusTxempty s) ||
  (bitSet s.eventEnable s.cfg.layout.eventEnable.rxfull && statusRxfull s)

/-- The level of the `error` line (R48, R240). -/
def errorLine (s : State) : Bool :=
  bitSet s.intrState s.cfg.layout.intrState.error && bitSet s.intrEnable s.cfg.layout.intrEnable.error

/-- The level of the `event` line (R48, R240). -/
def eventLine (s : State) : Bool :=
  bitSet s.intrState s.cfg.layout.intrState.spiEvent &&
  bitSet s.intrEnable s.cfg.layout.intrEnable.spiEvent

end Sys2Proof.Machine
end

