-- ==== Sys2Proof/Machine/Ops.lean ====
section
/-! DEFINITION. The shared operations: ending a step with or without a reply, diagnostics (60_exceptions.md
R250), raising an error kind (R221), the evaluator (R230), and the transport's exchange (20_memory.md R78). -/

namespace Sys2Proof.Machine

/-- End a read: the word goes back to the host (R120). -/
def answer (v : Word) (s : State) : Host.Outcome State Fault Refusal := .next { s with reply := some v }

/-- End a write or an event: nothing is returned (R121). -/
def done (s : State) : Host.Outcome State Fault Refusal := .next { s with reply := none }

/-- `diag(d)` (R250). -/
def emit (d : Diag) (s : State) : State := { s with diags := s.diags ++ [d] }

/-- `if b then diag(d)`. -/
def emitIf (b : Bool) (d : Diag) (s : State) : State := if b then emit d s else s

/-! The block's analogue of taking an exception: `raise` and then `Evaluate` (R221, R230, R241). -/

/-- `raise CommandBusy` (R221). -/
def raiseCommandBusy (s : State) : State :=
  { s with errorStatus := s.errorStatus ||| bitMask s.cfg.layout.errorStatus.cmdbusy }

/-- `raise InvalidCsid` (R221). -/
def raiseInvalidCsid (s : State) : State :=
  { s with errorStatus := s.errorStatus ||| bitMask s.cfg.layout.errorStatus.csidinval }

/-- The error line fires: it is enabled, its bit is not latched, and it has a cause (R230). -/
def errorFires (s : State) : Bool :=
  bitSet s.intrEnable s.cfg.layout.intrEnable.error &&
  !bitSet s.intrState s.cfg.layout.intrState.error && errCause s

/-- The event line fires (R230). -/
def eventFires (s : State) : Bool :=
  bitSet s.intrEnable s.cfg.layout.intrEnable.spiEvent &&
  !bitSet s.intrState s.cfg.layout.intrState.spiEvent && evtCause s

/-- `Evaluate(s)` (R230): latch the bit of each line that fires. The two lines are independent, neither reads
what the other writes. -/
def evaluate (s : State) : State :=
  { s with intrState := s.intrState |||
      flagWord (errorFires s) s.cfg.layout.intrState.error |||
      flagWord (eventFires s) s.cfg.layout.intrState.spiEvent }

/-- The acknowledge, the analogue of a return from an exception: INTR_STATE bits written 1 are cleared
(R234, R242). -/
def acknowledge (v : Word) (s : State) : State := { s with intrState := clearOnes s.intrState v }

/-! The transport. -/

/-- What the transport answers to `exchange(b)`: the next byte the environment has put forward, and past
these a free value (R78, D31; log entry 7). -/
def response (b : Byte) (s : State) : Byte :=
  match s.answers with
  | r :: _ => r
  | [] => Config.transport s.xlog b

/-- The byte the next iteration sends: the oldest of the transmit FIFO, 0x00 when it is empty (R183). -/
def sendByte (s : State) : Byte :=
  match pop s.tx with
  | some (b, _) => b
  | none => 0

/-- The transmit FIFO after that pop (R161, R183). -/
def txRest (s : State) : List Byte :=
  match pop s.tx with
  | some (_, rest) => rest
  | none => s.tx

/-- One iteration of R183's loop: pop or filler, `exchange`, the pair into the log, `push` of the answer. -/
def exchangeOne (s : State) : State :=
  { s with
    tx      := txRest s
    rx      := (push s.rx s.cfg.rxCap (response (sendByte s) s)).2
    xlog    := s.xlog ++ [(sendByte s, response (sendByte s) s)]
    answers := s.answers.tail }

/-- Exactly `n` iterations (R183). -/
def exchangeLoop : Nat → State → State
  | 0, s => s
  | n + 1, s => exchangeLoop n (exchangeOne s)

end Sys2Proof.Machine
end

