-- ==== Sys2Proof/Machine/ChipSelect.lean ====
section
/-! DEFINITION. CSID and CONFIGOPTS (43_chip_select.md). -/

namespace Sys2Proof.Machine

/-- R200: the whole word, unsigned, against NUM_CS; evaluate in both branches. -/
def execWrCsid (v : Word) (s : State) : Host.Outcome State Fault Refusal :=
  done (evaluate (if v.toNat ≥ s.cfg.numCs then raiseInvalidCsid s else { s with csid := v }))

/-- R201 -/
def execRdCsid (s : State) : Host.Outcome State Fault Refusal := answer s.csid s

/-- R202: into the entry CSID selects now (log entry 10 for a state without that entry). -/
def execWrConfigopts (v : Word) (s : State) : Host.Outcome State Fault Refusal :=
  if s.csid.toNat < s.configTable.length then
    done (emit (.unimp .configopts) { s with configTable := s.configTable.set s.csid.toNat v })
  else .fault .noTableEntry

/-- R203 -/
def execRdConfigopts (s : State) : Host.Outcome State Fault Refusal :=
  match s.configTable[s.csid.toNat]? with
  | some w => answer w s
  | none => .fault .noTableEntry

end Sys2Proof.Machine
end

