-- ==== Sys2Proof/Machine/CommandEngine.lean ====
section
/-! DEFINITION. COMMAND and the deferred completion (42_command_engine.md). -/

namespace Sys2Proof.Machine

/-- The DIRECTION value of a bidirectional transfer (R181). -/
def bidirectional : Nat := 3

/-- The three `Unimp` diagnostics of an accepted COMMAND word (R181). -/
def emitCommandDiags (v : Word) (s : State) : State :=
  emitIf (fieldVal s.cfg.layout.command.direction v != bidirectional) (.unimp .direction)
    (emitIf (fieldVal s.cfg.layout.command.speed v != 0) (.unimp .speed)
      (emitIf (bitSet v s.cfg.layout.command.csaat) (.unimp .csaat) s))

/-- The accept branch of R181 before the evaluation: the word is stored, the length latched, one
completion scheduled. -/
def acceptCommand (v : Word) (s : State) : State :=
  emitCommandDiags v { s with command := v, engine := .busy (segmentLength s.cfg v) }

/-- R181 -/
def execWrCommand (v : Word) (s : State) : Host.Outcome State Fault Refusal :=
  match s.engine with
  | .busy _ => done (evaluate (raiseCommandBusy s))
  | .ready => done (evaluate (acceptCommand v s))

/-- R182 -/
def execRdCommand (s : State) : Host.Outcome State Fault Refusal := answer s.command s

/-- R183 after the loop, before the evaluation: residual bytes discarded, READY. -/
def finishTransfer (s : State) : State := { s with tx := [], engine := .ready }

/-- R183; not enabled while the engine is READY (R187; log entry 6). -/
def execComplete (s : State) : Host.Outcome State Fault Refusal :=
  match s.engine with
  | .busy n => done (evaluate (finishTransfer (exchangeLoop n s)))
  | .ready => .refused .completeNotEnabled

end Sys2Proof.Machine
end

