-- ==== Sys2Proof/Machine/FifoData.lean ====
section
/-! DEFINITION. TXDATA and RXDATA (41_fifo_data.md). -/

namespace Sys2Proof.Machine

/-- R162: push the low byte (dropped when the FIFO is full), then evaluate in both cases. -/
def execWrTxdata (v : Word) (s : State) : Host.Outcome State Fault Refusal :=
  done (evaluate { s with tx := (push s.tx s.cfg.txCap (lowByte v)).2 })

/-- R163: reads 0 and does not pop. -/
def execRdTxdata (s : State) : Host.Outcome State Fault Refusal := answer 0 s

/-- R164: pop up to four bytes, the oldest into bits 7:0, absent lanes 0. -/
def execRdRxdata (s : State) : Host.Outcome State Fault Refusal :=
  answer (popLanes rxPop 0 0 s.rx).1 { s with rx := (popLanes rxPop 0 0 s.rx).2 }

/-- R165: a read-only register ignores the word. -/
def execWrRxdata (_v : Word) (s : State) : Host.Outcome State Fault Refusal := done s

end Sys2Proof.Machine
end

