-- ==== Sys2Proof/Machine/RegisterBank.lean ====
section
/-! DEFINITION. The twenty operations of 40_register_access.md: the registers with no component of their own
and the bad offsets. -/

namespace Sys2Proof.Machine

/-- R124 -/
def execRdIntrState (s : State) : Host.Outcome State Fault Refusal := answer s.intrState s

/-- R125: write-1-to-clear, no evaluation. -/
def execWrIntrState (v : Word) (s : State) : Host.Outcome State Fault Refusal := done (acknowledge v s)

/-- R126 -/
def execRdIntrEnable (s : State) : Host.Outcome State Fault Refusal := answer s.intrEnable s

/-- R127: a plain store, no evaluation. -/
def execWrIntrEnable (v : Word) (s : State) : Host.Outcome State Fault Refusal :=
  done { s with intrEnable := v }

/-- R128: a write-only register reads 0. -/
def execRdIntrTest (s : State) : Host.Outcome State Fault Refusal := answer 0 s

/-- R129 -/
def execWrIntrTest (v : Word) (s : State) : Host.Outcome State Fault Refusal :=
  done (evaluate { s with intrTest := v })

/-- R130 -/
def execRdAlertTest (s : State) : Host.Outcome State Fault Refusal := answer 0 s

/-- R131 -/
def execWrAlertTest (v : Word) (s : State) : Host.Outcome State Fault Refusal :=
  done (emit (.unimp .alertTest) { s with alertTest := v })

/-- R132 -/
def execRdControl (s : State) : Host.Outcome State Fault Refusal := answer s.control s

/-- R133: stored whole; SW_RST and OUTPUT_EN only leave a diagnostic. -/
def execWrControl (v : Word) (s : State) : Host.Outcome State Fault Refusal :=
  done
    (emitIf (bitSet v s.cfg.layout.control.outputEn) (.unimp .outputEn)
      (emitIf (bitSet v s.cfg.layout.control.swRst) (.unimp .swRst)
        { s with control := v }))

/-- R134 -/
def execRdStatus (s : State) : Host.Outcome State Fault Refusal := answer (statusWord s) s

/-- R135: a read-only register ignores the word. -/
def execWrStatus (_v : Word) (s : State) : Host.Outcome State Fault Refusal := done s

/-- R136 -/
def execRdErrorEnable (s : State) : Host.Outcome State Fault Refusal := answer s.errorEnable s

/-- R137 -/
def execWrErrorEnable (v : Word) (s : State) : Host.Outcome State Fault Refusal :=
  done (evaluate { s with errorEnable := v })

/-- R138 -/
def execRdErrorStatus (s : State) : Host.Outcome State Fault Refusal := answer s.errorStatus s

/-- R139: write-1-to-clear, no evaluation. -/
def execWrErrorStatus (v : Word) (s : State) : Host.Outcome State Fault Refusal :=
  done { s with errorStatus := clearOnes s.errorStatus v }

/-- R140 -/
def execRdEventEnable (s : State) : Host.Outcome State Fault Refusal := answer s.eventEnable s

/-- R141: `v.RXWM = 1 or v.TXWM = 1 or v.IDLE = 1`. -/
def reservedEvents (c : Config) (v : Word) : Bool :=
  bitSet v c.layout.eventEnable.rxwm || bitSet v c.layout.eventEnable.txwm ||
  bitSet v c.layout.eventEnable.idle

/-- R141 -/
def execWrEventEnable (v : Word) (s : State) : Host.Outcome State Fault Refusal :=
  done (evaluate (emitIf (reservedEvents s.cfg v) (.unimp .event) { s with eventEnable := v }))

/-- R122 -/
def execRdBad (off : Word) (s : State) : Host.Outcome State Fault Refusal := answer 0 (emit (.badRead off) s)

/-- R123: the word is discarded. -/
def execWrBad (off _v : Word) (s : State) : Host.Outcome State Fault Refusal := done (emit (.badWrite off) s)

end Sys2Proof.Machine
end

