-- ==== Sys2Proof/Machine/ResetEvent.lean ====
section
/-! DEFINITION. The RESET event (70_reset_and_hazards.md R260, R262). -/

namespace Sys2Proof.Machine

/-- R260: every field of R22 to its reset value, the pending completion cancelled; the exchange log and the
diagnostics stay, no evaluation runs. -/
def execReset (s : State) : Host.Outcome State Fault Refusal :=
  done { s with
    intrState   := 0
    intrEnable  := 0
    intrTest    := 0
    alertTest   := 0
    control     := resetControl
    configTable := List.replicate s.cfg.numCs 0
    csid        := 0
    command     := 0
    errorEnable := resetErrorEnable
    errorStatus := 0
    eventEnable := 0
    tx          := []
    rx          := []
    engine      := .ready }

end Sys2Proof.Machine
end

