-- ==== Sys2Proof/Machine/Dispatch.lean ====
section
/-! DEFINITION. The meaning of each operation: one arm per row of opcode_table.json. -/

namespace Sys2Proof.Machine

def exec (i : Instr) (s : State) : Host.Outcome State Fault Refusal :=
  match i with
  | .rdIntrState => Sys2Proof.Machine.execRdIntrState s
  | .wrIntrState v => Sys2Proof.Machine.execWrIntrState v s
  | .rdIntrEnable => Sys2Proof.Machine.execRdIntrEnable s
  | .wrIntrEnable v => Sys2Proof.Machine.execWrIntrEnable v s
  | .rdIntrTest => Sys2Proof.Machine.execRdIntrTest s
  | .wrIntrTest v => Sys2Proof.Machine.execWrIntrTest v s
  | .rdAlertTest => Sys2Proof.Machine.execRdAlertTest s
  | .wrAlertTest v => Sys2Proof.Machine.execWrAlertTest v s
  | .rdControl => Sys2Proof.Machine.execRdControl s
  | .wrControl v => Sys2Proof.Machine.execWrControl v s
  | .rdStatus => Sys2Proof.Machine.execRdStatus s
  | .wrStatus v => Sys2Proof.Machine.execWrStatus v s
  | .rdConfigopts => Sys2Proof.Machine.execRdConfigopts s
  | .wrConfigopts v => Sys2Proof.Machine.execWrConfigopts v s
  | .rdCsid => Sys2Proof.Machine.execRdCsid s
  | .wrCsid v => Sys2Proof.Machine.execWrCsid v s
  | .rdCommand => Sys2Proof.Machine.execRdCommand s
  | .wrCommand v => Sys2Proof.Machine.execWrCommand v s
  | .rdTxdata => Sys2Proof.Machine.execRdTxdata s
  | .wrTxdata v => Sys2Proof.Machine.execWrTxdata v s
  | .rdRxdata => Sys2Proof.Machine.execRdRxdata s
  | .wrRxdata v => Sys2Proof.Machine.execWrRxdata v s
  | .rdErrorEnable => Sys2Proof.Machine.execRdErrorEnable s
  | .wrErrorEnable v => Sys2Proof.Machine.execWrErrorEnable v s
  | .rdErrorStatus => Sys2Proof.Machine.execRdErrorStatus s
  | .wrErrorStatus v => Sys2Proof.Machine.execWrErrorStatus v s
  | .rdEventEnable => Sys2Proof.Machine.execRdEventEnable s
  | .wrEventEnable v => Sys2Proof.Machine.execWrEventEnable v s
  | .rdBad off => Sys2Proof.Machine.execRdBad off s
  | .wrBad off v => Sys2Proof.Machine.execWrBad off v s
  | .complete => Sys2Proof.Machine.execComplete s
  | .reset => Sys2Proof.Machine.execReset s

end Sys2Proof.Machine
end

