-- ==== Sys2Proof/Decode.lean ====
section
/-! DEFINITION. Decoding a step request (30_encoding.md R101, R102, R106), then the encoder. -/

namespace Sys2Proof

/-- Why a request is no step of the block. Raised by `decode`; the machine refuses such a request. -/
inductive DecodeError where
  /-- `kind` is 3, which "never occurs" (R101). Safe: the machine stops. -/
  | kindNeverOccurs
  /-- A bit above the 35-bit step code is 1 (R101). Safe: the machine stops. -/
  | bitsAboveStepCode
  deriving DecidableEq, Repr

/-- The byte offset of a register (R24, R71); three of them are parameters of the configuration. -/
def Config.offset (c : Config) : Reg → Word
  | .intrState => 0x00
  | .intrEnable => 0x04
  | .intrTest => 0x08
  | .alertTest => 0x0C
  | .control => 0x10
  | .status => 0x14
  | .configopts => 0x18
  | .csid => 0x1C
  | .command => 0x20
  | .txdata => c.offTxdata
  | .rxdata => c.offRxdata
  | .errorEnable => 0x2C
  | .errorStatus => 0x30
  | .eventEnable => c.offEventEnable

/-- The register at an offset: all 32 bits are compared with each of the fourteen offsets (R102). -/
def regAt (c : Config) (off : Word) : Option Reg := Reg.all.find? (fun r => c.offset r == off)

/-- The bus operation that `(we, off)` selects (R102); `wdata` counts only when `we` is 1 (R101). -/
def decodeBus (c : Config) (we : Bool) (off wdata : Word) : Instr :=
  match regAt c off, we with
  | some r, false => Instr.read r
  | some r, true => Instr.write r wdata
  | none, false => .rdBad off
  | none, true => .wrBad off wdata

/-- The `kind` field of a step code (R101). -/
def Request.kind (r : Request) : BitVec 2 := r.code.extractLsb' 33 2

/-- The `we` field of a step code (R101). -/
def Request.we (r : Request) : Bool := r.code.getLsbD 32

/-- The `off` field of a step code (R101). -/
def Request.off (r : Request) : Word := r.code.extractLsb' 0 32

/-- R101, R102: total, each request selects one operation or is rejected by name. COMPLETE and RESET
ignore `we` and `off`. -/
def decode (c : Config) (r : Request) : Except DecodeError Instr :=
  if r.code.extractLsb' 35 5 ≠ 0 then .error .bitsAboveStepCode
  else if r.kind = 0 then .ok (decodeBus c r.we r.off r.wdata)
  else if r.kind = 1 then .ok .complete
  else if r.kind = 2 then .ok .reset
  else .error .kindNeverOccurs

/-- A request as one number: the step code in bits 34 to 0 (bits 39 to 35 fill its last byte), the data
word in bits 71 to 40 (log entry 11). -/
def requestOfNat (w : Nat) : Request := ⟨BitVec.ofNat 40 w, BitVec.ofNat 32 (w / 2 ^ 40)⟩

/-- The request whose low `nbits` bits are those of `w` and whose other bits are 0. -/
def requestOfTableWord (nbits w : Nat) : Request := requestOfNat (w % 2 ^ nbits)

/-- The instruction the decoder reads, under the default configuration, from the bits of `w`. -/
def decodeTableWord (nbits w : Nat) : Option Instr :=
  match decode Machine.defaultConfig (requestOfTableWord nbits w) with
  | .ok i => some i
  | .error _ => none

/-! The encoder, from the same table (R102). -/

/-- The step code `{kind, we, off}` of R101, rounded up to whole bytes. -/
def stepCode (kind : BitVec 2) (we : Bool) (off : Word) : BitVec 40 :=
  (0#5 ++ kind) ++ (BitVec.ofBool we ++ off)

/-- The request of a bus read at an offset. -/
def readRequest (off : Word) : Request := ⟨stepCode 0 false off, 0⟩

/-- The request of a bus write of a word at an offset. -/
def writeRequest (off v : Word) : Request := ⟨stepCode 0 true off, v⟩

/-- The request of an operation: transaction codes of R102, event codes of R101. -/
def encode (c : Config) : Instr → Request
  | .rdIntrState => readRequest (c.offset .intrState)
  | .wrIntrState v => writeRequest (c.offset .intrState) v
  | .rdIntrEnable => readRequest (c.offset .intrEnable)
  | .wrIntrEnable v => writeRequest (c.offset .intrEnable) v
  | .rdIntrTest => readRequest (c.offset .intrTest)
  | .wrIntrTest v => writeRequest (c.offset .intrTest) v
  | .rdAlertTest => readRequest (c.offset .alertTest)
  | .wrAlertTest v => writeRequest (c.offset .alertTest) v
  | .rdControl => readRequest (c.offset .control)
  | .wrControl v => writeRequest (c.offset .control) v
  | .rdStatus => readRequest (c.offset .status)
  | .wrStatus v => writeRequest (c.offset .status) v
  | .rdConfigopts => readRequest (c.offset .configopts)
  | .wrConfigopts v => writeRequest (c.offset .configopts) v
  | .rdCsid => readRequest (c.offset .csid)
  | .wrCsid v => writeRequest (c.offset .csid) v
  | .rdCommand => readRequest (c.offset .command)
  | .wrCommand v => writeRequest (c.offset .command) v
  | .rdTxdata => readRequest (c.offset .txdata)
  | .wrTxdata v => writeRequest (c.offset .txdata) v
  | .rdRxdata => readRequest (c.offset .rxdata)
  | .wrRxdata v => writeRequest (c.offset .rxdata) v
  | .rdErrorEnable => readRequest (c.offset .errorEnable)
  | .wrErrorEnable v => writeRequest (c.offset .errorEnable) v
  | .rdErrorStatus => readRequest (c.offset .errorStatus)
  | .wrErrorStatus v => writeRequest (c.offset .errorStatus) v
  | .rdEventEnable => readRequest (c.offset .eventEnable)
  | .wrEventEnable v => writeRequest (c.offset .eventEnable) v
  | .rdBad off => readRequest off
  | .wrBad off v => writeRequest off v
  | .complete => ⟨stepCode 1 false 0, 0⟩
  | .reset => ⟨stepCode 2 false 0, 0⟩

end Sys2Proof
end

