-- ==== Sys2Proof/Machine/Fetch.lean ====
section
/-! DEFINITION. Which operation the next step runs (20_memory.md R84, 70_reset_and_hazards.md R287, R288)
and how a request comes to be the next one. -/

namespace Sys2Proof.Machine

/-- What the next step is. -/
inductive Fetched where
  /-- An operation, and the state it runs in. -/
  | run (i : Instr) (s : State)
  /-- No step is enabled: quiescent (R288). -/
  | idle (s : State)
  /-- The head of the inbox is no step code. -/
  | invalid (e : DecodeError)

/-- The head of the inbox is the next step. When it is empty, the timer service delivers a pending
completion (its duty, R289), and a block with none is quiescent (R288; log entry 5). -/
def fetch (s : State) : Fetched :=
  match s.inbox with
  | r :: rest =>
    match decode s.cfg r with
    | .ok i => .run i { s with inbox := rest }
    | .error e => .invalid e
  | [] =>
    match s.engine with
    | .busy _ => .run .complete s
    | .ready => .idle s

/-- The state in which a request is the next step: it stands at the head of the inbox; a COMPLETE exists
only where a completion is scheduled, so while the engine is READY the command it completes is in flight
as well, the one whose word COMMAND holds (R44, R46 (b), R246; log entry 12). -/
def place (r : Request) (s : State) : State :=
  match decode s.cfg r, s.engine with
  | .ok .complete, .ready =>
    { s with inbox := r :: s.inbox, engine := .busy (segmentLength s.cfg s.command) }
  | _, _ => { s with inbox := r :: s.inbox }

end Sys2Proof.Machine
end

