-- ==== Sys2Proof/Machine/Step.lean ====
section
/-! DEFINITION. One step of the block. -/

namespace Sys2Proof.Machine

/-- One atomic step (20_memory.md R84): the next operation runs to its end. -/
def step (s : State) : Host.Outcome State Fault Refusal :=
  match fetch s with
  | .run i s' => exec i s'
  | .idle s' => .next s'
  | .invalid _ => .refused .undecodable

/-- The state in which the instruction with the bits of `w` is the next step. -/
def State.withFetchWord (s : State) (nbits w : Nat) : State := place (requestOfTableWord nbits w) s

end Sys2Proof.Machine
end

