-- ==== Sys2Proof/WellFormed.lean ====
section
/-! DEFINITION. What a meaningful configuration is (00_scope.md R6) and what a well-formed operation is
(a bad-offset operation carries an offset that is no register's, 30_encoding.md R106). -/

namespace Sys2Proof

/-- A field lies inside the 32-bit word and holds at least one bit. -/
def Field.fits (f : Field) : Bool := decide (1 ≤ f.width) && decide (f.lsb + f.width ≤ 32)

/-- Two fields share no bit. -/
def Field.disjoint (f g : Field) : Bool :=
  decide (f.lsb + f.width ≤ g.lsb) || decide (g.lsb + g.width ≤ f.lsb)

/-- The fields of one register fit and share no bit pairwise. -/
def fieldsWf : List Field → Bool
  | [] => true
  | f :: fs => f.fits && fs.all f.disjoint && fieldsWf fs

/-- A one-bit field at a bit position. -/
def oneBit (i : Nat) : Field := ⟨i, 1⟩

def IntrLayout.fields (l : IntrLayout) : List Field := [oneBit l.error, oneBit l.spiEvent]

def AlertTestLayout.fields (l : AlertTestLayout) : List Field := [oneBit l.fatalFault]

def ControlLayout.fields (l : ControlLayout) : List Field :=
  [l.rxWatermark, l.txWatermark, oneBit l.outputEn, oneBit l.swRst, oneBit l.spien]

def StatusLayout.fields (l : StatusLayout) : List Field :=
  [l.txqd, l.rxqd, l.cmdqd, oneBit l.rxwm, oneBit l.byteorder, oneBit l.rxstall, oneBit l.rxempty,
   oneBit l.rxfull, oneBit l.txwm, oneBit l.txstall, oneBit l.txempty, oneBit l.txfull,
   oneBit l.active, oneBit l.ready]

def ConfigoptsLayout.fields (l : ConfigoptsLayout) : List Field :=
  [l.clkdiv, l.csnidle, l.csntrail, l.csnlead, oneBit l.fullcyc, oneBit l.cpha, oneBit l.cpol]

def CommandLayout.fields (l : CommandLayout) : List Field :=
  [⟨0, l.lenWidth⟩, oneBit l.csaat, l.speed, l.direction]

def ErrorEnableLayout.fields (l : ErrorEnableLayout) : List Field :=
  [oneBit l.cmdbusy, oneBit l.overflow, oneBit l.underflow, oneBit l.cmdinval, oneBit l.csidinval]

def ErrorStatusLayout.fields (l : ErrorStatusLayout) : List Field :=
  [oneBit l.cmdbusy, oneBit l.overflow, oneBit l.underflow, oneBit l.cmdinval, oneBit l.csidinval,
   oneBit l.accessinval]

def EventEnableLayout.fields (l : EventEnableLayout) : List Field :=
  [oneBit l.rxfull, oneBit l.txempty, oneBit l.rxwm, oneBit l.txwm, oneBit l.ready, oneBit l.idle]

/-- Every register's fields fit its word and are disjoint. -/
def Layout.wf (l : Layout) : Bool :=
  fieldsWf l.intrState.fields && fieldsWf l.intrEnable.fields && fieldsWf l.intrTest.fields &&
  fieldsWf l.alertTest.fields && fieldsWf l.control.fields && fieldsWf l.status.fields &&
  fieldsWf l.configopts.fields && fieldsWf l.command.fields && fieldsWf l.errorEnable.fields &&
  fieldsWf l.errorStatus.fields && fieldsWf l.eventEnable.fields

/-- R6: 1 ≤ NUM_CS ≤ 2^32 − 1. -/
def Config.numCsOk (c : Config) : Bool := decide (1 ≤ c.numCs) && decide (c.numCs < 2 ^ 32)

/-- R6: both capacities are at least 1. -/
def Config.capsOk (c : Config) : Bool := decide (1 ≤ c.txCap) && decide (1 ≤ c.rxCap)

/-- R6, D2: OFF_TXDATA and OFF_RXDATA are 0x24 and 0x28, one each. -/
def Config.dataOffsetsOk (c : Config) : Bool :=
  (c.offTxdata == 0x24#32 && c.offRxdata == 0x28#32) ||
  (c.offTxdata == 0x28#32 && c.offRxdata == 0x24#32)

/-- R6, R71, R73: OFF_EVENT_ENABLE is a multiple of 4 and distinct from the thirteen other offsets. -/
def Config.eventOffsetOk (c : Config) : Bool :=
  decide (c.offEventEnable.toNat % 4 = 0) &&
  Reg.all.all (fun r => r == .eventEnable || c.offset r != c.offEventEnable)

/-- The constraints R6 puts on the configuration record. -/
def Config.wf (c : Config) : Bool :=
  c.numCsOk && c.capsOk && c.dataOffsetsOk && c.eventOffsetOk && c.layout.wf

/-- An operation is well formed when a bad-offset access has an offset that is no register's (R106);
every other operation is. -/
def Instr.wf (c : Config) : Instr → Bool
  | .rdBad off => (regAt c off).isNone
  | .wrBad off _ => (regAt c off).isNone
  | .rdIntrState | .wrIntrState _ | .rdIntrEnable | .wrIntrEnable _ | .rdIntrTest | .wrIntrTest _
  | .rdAlertTest | .wrAlertTest _ | .rdControl | .wrControl _ | .rdStatus | .wrStatus _
  | .rdConfigopts | .wrConfigopts _ | .rdCsid | .wrCsid _ | .rdCommand | .wrCommand _
  | .rdTxdata | .wrTxdata _ | .rdRxdata | .wrRxdata _ | .rdErrorEnable | .wrErrorEnable _
  | .rdErrorStatus | .wrErrorStatus _ | .rdEventEnable | .wrEventEnable _ | .complete | .reset => true

end Sys2Proof
end

