-- ==== Sys2Proof/Safety.lean ====
section
/-! DEFINITION. The invariant of 10_state.md R23, with what it needs of the configuration (00_scope.md R6),
and what a safe step is (70_reset_and_hazards.md R287). -/

namespace Sys2Proof.Machine

/-- INTR_STATE holds nothing but its ERROR and SPI_EVENT bits (R23 (e)). -/
def intrStateOk (s : State) : Prop :=
  s.intrState &&&
    ~~~(bitMask s.cfg.layout.intrState.error ||| bitMask s.cfg.layout.intrState.spiEvent) = 0

/-- ERROR_STATUS holds nothing but its CMDBUSY and CSIDINVAL bits (R23 (f)). -/
def errorStatusOk (s : State) : Prop :=
  s.errorStatus &&&
    ~~~(bitMask s.cfg.layout.errorStatus.cmdbusy ||| bitMask s.cfg.layout.errorStatus.csidinval) = 0

/-- The invariants of R23. Its clauses (c) and (d) are about the derived STATUS word and hold in every state
of a well-formed configuration. -/
structure StateInv (s : State) : Prop where
  /-- R6 -/
  config      : s.cfg.wf = true
  /-- R23 (a) -/
  csid        : s.csid.toNat < s.cfg.numCs
  /-- R43: exactly NUM_CS entries. -/
  table       : s.configTable.length = s.cfg.numCs
  /-- R23 (b) -/
  tx          : s.tx.length ≤ s.cfg.txCap
  /-- R23 (b) -/
  rx          : s.rx.length ≤ s.cfg.rxCap
  /-- R23 (e) -/
  intrState   : intrStateOk s
  /-- R23 (f) -/
  errorStatus : errorStatusOk s
  /-- R46 (b): the latched length is that of the word COMMAND holds. -/
  segment     : ∀ n, s.engine = .busy n → n = segmentLength s.cfg s.command

/-- An operation is enabled: every one is in every state, but COMPLETE only while the engine is BUSY (R287). -/
def Enabled (i : Instr) (s : State) : Prop := i = .complete → ∃ n, s.engine = .busy n

end Sys2Proof.Machine
end

