-- ==== Sys2Proof/Certificates/Slice0/Obligations.lean ====
section
/-! DEFINITION. The statements for the provers, each named for what it says. Rule numbers R<n> and decisions
D<n> are those of spec/. A record update names every field an operation changes, so such an equation is
also the operation's frame: every field not named is the old one. `reply`, `answers`, `inbox` and `cfg` are the
model's own fields (log entries 1, 4, 7, 8). The block has no memory: no operation stores outside State's
registers, queues and table. -/

open Sys2Proof Sys2Proof.Machine

/-! Vocabulary of the statements. -/

namespace Sys2Proof.Claims

/-- The fifteen read operations (R120). -/
def isRead : Instr → Bool
  | .rdIntrState | .rdIntrEnable | .rdIntrTest | .rdAlertTest | .rdControl | .rdStatus | .rdConfigopts
  | .rdCsid | .rdCommand | .rdTxdata | .rdRxdata | .rdErrorEnable | .rdErrorStatus | .rdEventEnable
  | .rdBad _ => true
  | .wrIntrState _ | .wrIntrEnable _ | .wrIntrTest _ | .wrAlertTest _ | .wrControl _ | .wrStatus _
  | .wrConfigopts _ | .wrCsid _ | .wrCommand _ | .wrTxdata _ | .wrRxdata _ | .wrErrorEnable _
  | .wrErrorStatus _ | .wrEventEnable _ | .wrBad _ _ | .complete | .reset => false

/-- The fifteen write operations (R121). -/
def isWrite : Instr → Bool
  | .wrIntrState _ | .wrIntrEnable _ | .wrIntrTest _ | .wrAlertTest _ | .wrControl _ | .wrStatus _
  | .wrConfigopts _ | .wrCsid _ | .wrCommand _ | .wrTxdata _ | .wrRxdata _ | .wrErrorEnable _
  | .wrErrorStatus _ | .wrEventEnable _ | .wrBad _ _ => true
  | .rdIntrState | .rdIntrEnable | .rdIntrTest | .rdAlertTest | .rdControl | .rdStatus | .rdConfigopts
  | .rdCsid | .rdCommand | .rdTxdata | .rdRxdata | .rdErrorEnable | .rdErrorStatus | .rdEventEnable
  | .rdBad _ | .complete | .reset => false

/-- The operations that run the evaluator (R232). -/
def evaluates : Instr → Bool
  | .wrCommand _ | .wrTxdata _ | .wrCsid _ | .wrErrorEnable _ | .wrEventEnable _ | .wrIntrTest _
  | .complete => true
  | .rdIntrState | .rdIntrEnable | .rdIntrTest | .rdAlertTest | .rdControl | .rdStatus | .rdConfigopts
  | .rdCsid | .rdCommand | .rdTxdata | .rdRxdata | .rdErrorEnable | .rdErrorStatus | .rdEventEnable
  | .rdBad _ | .wrIntrState _ | .wrIntrEnable _ | .wrAlertTest _ | .wrControl _ | .wrStatus _
  | .wrConfigopts _ | .wrRxdata _ | .wrErrorStatus _ | .wrBad _ _ | .reset => false

/-- `i` is the bus write of register `r`. -/
def Writes (r : Reg) (i : Instr) : Prop := ∃ v, i = Instr.write r v

/-- `off` is no register's offset (R71, R106). -/
def BadOff (c : Config) (off : Word) : Prop := ∀ r, c.offset r ≠ off

/-- The code of a bus read: kind 0, `we` 0 (R101). -/
def readCode (off : Word) : BitVec 40 := 0#8 ++ off

/-- The code of a bus write: kind 0, `we` 1 at bit 32 (R101). -/
def writeCode (off : Word) : BitVec 40 := 1#8 ++ off

/-- A code of a given kind with any `we` and `off` (R101). -/
def kindCode (kind : BitVec 2) (rest : BitVec 33) : BitVec 40 := (0#5 ++ kind) ++ rest

/-- The engine after an operation, by the table of R180. -/
def nextEngine (i : Instr) (s : State) : Engine :=
  match i, s.engine with
  | .wrCommand v, .ready => .busy (v.toNat % 2 ^ s.cfg.layout.command.lenWidth)
  | .wrCommand _, .busy n => .busy n
  | .complete, _ => .ready
  | .reset, _ => .ready
  | _, e => e

/-- The bytes a command of length `n` sends: the oldest `n` queued, then zeros (R183). -/
def sentBytes (n : Nat) (tx : List Byte) : List Byte := tx.take n ++ List.replicate (n - tx.length) 0

/-- Push bytes one after another (R160). -/
def pushAll (cap : Nat) : List Byte → List Byte → List Byte
  | q, [] => q
  | q, b :: bs => pushAll cap (push q cap b).2 bs

/-- Pop up to `k` bytes: the bytes in the order they leave, and the rest (R161). -/
def popAll : Nat → List Byte → List Byte × List Byte
  | 0, q => ([], q)
  | k + 1, q =>
    match pop q with
    | none => ([], q)
    | some (b, rest) => (b :: (popAll k rest).1, (popAll k rest).2)

/-- Apply `f` to a next state, leave the other outcomes. -/
def mapNext (f : State → State) : Host.Outcome State Fault Refusal → Host.Outcome State Fault Refusal
  | .next t => .next (f t)
  | .fault e => .fault e
  | .refused r => .refused r

end Sys2Proof.Claims

open Sys2Proof.Claims

/-! Encoding and the step. -/

/-- For every meaningful configuration and every well-formed operation, decoding its encoding gives it back:
no operand bit is dropped. -/
def Obligations.DecodeOfEncodeIsIdentity : Prop :=
  ∀ (c : Config) (i : Instr), c.wf = true → i.wf c = true → decode c (encode c i) = .ok i

/-- R102, the whole decoder table: each register's offset selects its read and its write, every other offset
the bad-offset operations; all 32 bits of the offset take part. -/
def Obligations.EachOffsetSelectsExactlyItsOperation : Prop :=
  ∀ (c : Config) (v : Word), c.wf = true →
    (decode c ⟨0x0000000000#40, v⟩ = .ok .rdIntrState ∧ decode c ⟨0x0100000000#40, v⟩ = .ok (.wrIntrState v)) ∧
    (decode c ⟨0x0000000004#40, v⟩ = .ok .rdIntrEnable ∧ decode c ⟨0x0100000004#40, v⟩ = .ok (.wrIntrEnable v)) ∧
    (decode c ⟨0x0000000008#40, v⟩ = .ok .rdIntrTest ∧ decode c ⟨0x0100000008#40, v⟩ = .ok (.wrIntrTest v)) ∧
    (decode c ⟨0x000000000C#40, v⟩ = .ok .rdAlertTest ∧ decode c ⟨0x010000000C#40, v⟩ = .ok (.wrAlertTest v)) ∧
    (decode c ⟨0x0000000010#40, v⟩ = .ok .rdControl ∧ decode c ⟨0x0100000010#40, v⟩ = .ok (.wrControl v)) ∧
    (decode c ⟨0x0000000014#40, v⟩ = .ok .rdStatus ∧ decode c ⟨0x0100000014#40, v⟩ = .ok (.wrStatus v)) ∧
    (decode c ⟨0x0000000018#40, v⟩ = .ok .rdConfigopts ∧ decode c ⟨0x0100000018#40, v⟩ = .ok (.wrConfigopts v)) ∧
    (decode c ⟨0x000000001C#40, v⟩ = .ok .rdCsid ∧ decode c ⟨0x010000001C#40, v⟩ = .ok (.wrCsid v)) ∧
    (decode c ⟨0x0000000020#40, v⟩ = .ok .rdCommand ∧ decode c ⟨0x0100000020#40, v⟩ = .ok (.wrCommand v)) ∧
    (decode c ⟨readCode c.offTxdata, v⟩ = .ok .rdTxdata ∧ decode c ⟨writeCode c.offTxdata, v⟩ = .ok (.wrTxdata v)) ∧
    (decode c ⟨readCode c.offRxdata, v⟩ = .ok .rdRxdata ∧ decode c ⟨writeCode c.offRxdata, v⟩ = .ok (.wrRxdata v)) ∧
    (decode c ⟨0x000000002C#40, v⟩ = .ok .rdErrorEnable ∧ decode c ⟨0x010000002C#40, v⟩ = .ok (.wrErrorEnable v)) ∧
    (decode c ⟨0x0000000030#40, v⟩ = .ok .rdErrorStatus ∧ decode c ⟨0x0100000030#40, v⟩ = .ok (.wrErrorStatus v)) ∧
    (decode c ⟨readCode c.offEventEnable, v⟩ = .ok .rdEventEnable ∧
      decode c ⟨writeCode c.offEventEnable, v⟩ = .ok (.wrEventEnable v)) ∧
    (∀ off : Word, BadOff c off →
      decode c ⟨readCode off, v⟩ = .ok (.rdBad off) ∧ decode c ⟨writeCode off, v⟩ = .ok (.wrBad off v)) ∧
    (∀ x : BitVec 33, decode c ⟨kindCode 1 x, v⟩ = .ok .complete ∧ decode c ⟨kindCode 2 x, v⟩ = .ok .reset)

/-- What the decoder accepts is well formed, so a bad-offset operation never carries a register's offset; it
rejects exactly kind 3 and codes with a bit above the 35-bit step code (log entry 11). -/
def Obligations.DecoderRejectsOnlyWhatIsNoStepCode : Prop :=
  ∀ (c : Config) (r : Request),
    (∀ i, decode c r = .ok i → i.wf c = true) ∧
    ((∃ e, decode c r = .error e) ↔ r.code.extractLsb' 35 5 ≠ 0 ∨ r.code.extractLsb' 33 2 = 3#2)

/-- A few step codes of R101 and R102, written out, and what they decode to under the default offsets. -/
def Obligations.SampleStepCodesDecode : Prop :=
  decodeTableWord 40 0x0000000014 = some .rdStatus ∧
  decodeTableWord 72 0x000000030100000020 = some (.wrCommand 3) ∧
  decodeTableWord 72 0x123456780100000024 = some (.wrTxdata 0x12345678) ∧
  decodeTableWord 72 0x000000050100000018 = some (.wrConfigopts 5) ∧
  decodeTableWord 40 0x0000000038 = some (.rdBad 0x38) ∧
  decodeTableWord 40 0x0200000000 = some .complete ∧
  decodeTableWord 40 0x0400000000 = some .reset ∧
  decodeTableWord 40 0x0600000000 = none

/-- A step runs the operation at the head of the inbox, with the head taken off; an empty inbox lets a pending
completion run, or, with none, leaves the state alone (log entries 4 and 5). -/
def Obligations.StepRunsTheDecodedOperation : Prop :=
  ∀ s : State,
    (∀ r rest i, s.inbox = r :: rest → decode s.cfg r = .ok i → step s = exec i { s with inbox := rest }) ∧
    (∀ r rest e, s.inbox = r :: rest → decode s.cfg r = .error e → step s = .refused .undecodable) ∧
    (∀ n, s.inbox = [] → s.engine = .busy n → step s = exec .complete s) ∧
    (s.inbox = [] → s.engine = .ready → step s = .next s)

/-- A placed word is what the next step runs: in the state itself, or, for COMPLETE while the engine is READY,
in the state with the command in flight whose word COMMAND holds (log entry 12). -/
def Obligations.PlacedWordIsRunByTheNextStep : Prop :=
  ∀ (s : State) (nbits w : Nat) (i : Instr), s.cfg = defaultConfig → decodeTableWord nbits w = some i →
    ((i ≠ .complete ∨ s.engine ≠ .ready) → step (s.withFetchWord nbits w) = exec i s) ∧
    (i = .complete → s.engine = .ready →
      step (s.withFetchWord nbits w) = exec i { s with engine := .busy (segmentLength s.cfg s.command) })

/-! Invariants and totality. -/

/-- The reset state of every meaningful configuration meets the invariant. -/
def Obligations.ResetStateMeetsTheInvariant : Prop :=
  StateInv State.reset ∧ ∀ c : Config, c.wf = true → StateInv (State.resetOf c)

/-- Every step of the block keeps the invariants of R23, from every state that meets them. -/
def Obligations.EveryStepKeepsTheInvariant : Prop :=
  ∀ s t : State, StateInv s → step s = .next t → StateInv t

/-- In every state that meets the invariant each enabled operation answers a next state, and no step faults:
the block never refuses an access and has no stuck state; a step is refused only for a request that is no
step code or a COMPLETE that is not enabled. -/
def Obligations.EnabledOperationsAlwaysComplete : Prop :=
  ∀ s : State, StateInv s →
    (∀ i, Enabled i s → ∃ t, exec i s = .next t) ∧
    (∀ f, step s ≠ .fault f) ∧
    (∀ r rest i, s.inbox = r :: rest → decode s.cfg r = .ok i → Enabled i s → ∃ t, step s = .next t)

/-- R120: a bus read at any offset decodes to a read operation and returns a word; none faults. -/
def Obligations.EveryBusReadReturnsAWord : Prop :=
  ∀ (s : State) (off v : Word) (rest : List Request), StateInv s → s.inbox = ⟨readCode off, v⟩ :: rest →
    ∃ i t w, decode s.cfg ⟨readCode off, v⟩ = .ok i ∧ isRead i = true ∧
      exec i { s with inbox := rest } = .next t ∧ step s = .next t ∧ t.reply = some w

/-- A bus write at any offset with any word decodes to a write operation, completes, and returns nothing. -/
def Obligations.EveryBusWriteCompletesWithoutReply : Prop :=
  ∀ (s : State) (off v : Word) (rest : List Request), StateInv s → s.inbox = ⟨writeCode off, v⟩ :: rest →
    ∃ i t, decode s.cfg ⟨writeCode off, v⟩ = .ok i ∧ isWrite i = true ∧
      exec i { s with inbox := rest } = .next t ∧ step s = .next t ∧ t.reply = none

/-- The configuration is fixed at construction. -/
def Obligations.ConfigurationNeverChanges : Prop :=
  ∀ s t : State, step s = .next t → t.cfg = s.cfg

/-! Reads. -/

/-- R124, R126, R132, R136, R138, R140, R201: the read returns the register, and changes nothing; the values the
rules name after reset, and the bounds they name, hold. -/
def Obligations.RegisterReadsReturnTheStoredWord : Prop :=
  ∀ (s : State) (v : Word),
    (s.cfg.wf = true →
      decode s.cfg ⟨0x0000000000#40, v⟩ = .ok .rdIntrState ∧
      decode s.cfg ⟨0x0000000004#40, v⟩ = .ok .rdIntrEnable ∧
      decode s.cfg ⟨0x0000000010#40, v⟩ = .ok .rdControl ∧
      decode s.cfg ⟨0x000000001C#40, v⟩ = .ok .rdCsid ∧
      decode s.cfg ⟨0x000000002C#40, v⟩ = .ok .rdErrorEnable ∧
      decode s.cfg ⟨0x0000000030#40, v⟩ = .ok .rdErrorStatus ∧
      decode s.cfg ⟨readCode s.cfg.offEventEnable, v⟩ = .ok .rdEventEnable) ∧
    exec .rdIntrState s = .next { s with reply := some s.intrState } ∧
    exec .rdIntrEnable s = .next { s with reply := some s.intrEnable } ∧
    exec .rdControl s = .next { s with reply := some s.control } ∧
    exec .rdCsid s = .next { s with reply := some s.csid } ∧
    exec .rdErrorEnable s = .next { s with reply := some s.errorEnable } ∧
    exec .rdErrorStatus s = .next { s with reply := some s.errorStatus } ∧
    exec .rdEventEnable s = .next { s with reply := some s.eventEnable } ∧
    (StateInv s → s.cfg.layout = defaultLayout → s.intrState.toNat < 4) ∧
    (StateInv s → s.csid.toNat < s.cfg.numCs) ∧
    (StateInv s → ∀ k < 32, bitSet s.errorStatus k = true →
      k = s.cfg.layout.errorStatus.cmdbusy ∨ k = s.cfg.layout.errorStatus.csidinval) ∧
    (∀ t : State, exec .reset s = .next t →
      t.intrState = 0x00000000#32 ∧ t.intrEnable = 0x00000000#32 ∧ t.control = 0x0000007F#32 ∧
      t.csid = 0x00000000#32 ∧ t.errorEnable = 0x0000001F#32 ∧ t.errorStatus = 0x00000000#32 ∧
      t.eventEnable = 0x00000000#32)

/-- RD.COMMAND returns the last accepted word. That a rejected word is not kept is the spec's decision D24. -/
def Obligations.CommandReadReturnsTheLastAcceptedWord : Prop :=
  ∀ s : State, exec .rdCommand s = .next { s with reply := some s.command } ∧
    ∀ (v : Word) (t : State), exec (.wrCommand v) s = .next t →
      exec .rdCommand t =
        .next { t with reply := some (if s.engine = .ready then v else s.command) }

/-- The write-only registers read 0 whatever was written, and TXDATA does not pop (the value 0 is the spec's
decision D9). -/
def Obligations.WriteOnlyRegistersReadZero : Prop :=
  ∀ s : State,
    exec .rdIntrTest s = .next { s with reply := some 0 } ∧
    exec .rdAlertTest s = .next { s with reply := some 0 } ∧
    exec .rdTxdata s = .next { s with reply := some 0 }

/-- R134: RD.STATUS returns the derived word and changes nothing; after reset it is 0x91000000, after a TXDATA
write 0x81000001. -/
def Obligations.StatusReadReturnsTheDerivedWord : Prop :=
  (∀ (s : State) (v : Word),
    (s.cfg.wf = true → decode s.cfg ⟨0x0000000014#40, v⟩ = .ok .rdStatus) ∧
    exec .rdStatus s = .next { s with reply := some (statusWord s) }) ∧
  statusWord State.reset = 0x91000000#32 ∧
  ∀ t, exec (.wrTxdata 0xAA) State.reset = .next t → statusWord t = 0x81000001#32

/-- STATUS, field by field: occupancies rounded up to words and clamped, exact flags, READY, and 0 in every
other bit; and as one word under the default layout. Stored-or-derived, the clamp and the constant fields
are the spec's decisions D20, D33 and D27. -/
def Obligations.StatusWordMirrorsQueuesAndEngine : Prop :=
  ∀ s : State, s.cfg.wf = true →
    fieldVal s.cfg.layout.status.txqd (statusWord s)
      = min ((s.tx.length + 3) / 4) (2 ^ s.cfg.layout.status.txqd.width - 1) ∧
    fieldVal s.cfg.layout.status.rxqd (statusWord s)
      = min ((s.rx.length + 3) / 4) (2 ^ s.cfg.layout.status.rxqd.width - 1) ∧
    (bitSet (statusWord s) s.cfg.layout.status.ready = true ↔ s.engine = .ready) ∧
    (∀ k < 32,
      (k < s.cfg.layout.status.txqd.lsb ∨
        s.cfg.layout.status.txqd.lsb + s.cfg.layout.status.txqd.width ≤ k) →
      (k < s.cfg.layout.status.rxqd.lsb ∨
        s.cfg.layout.status.rxqd.lsb + s.cfg.layout.status.rxqd.width ≤ k) →
      k ≠ s.cfg.layout.status.rxempty → k ≠ s.cfg.layout.status.rxfull →
      k ≠ s.cfg.layout.status.txempty → k ≠ s.cfg.layout.status.txfull →
      k ≠ s.cfg.layout.status.ready → bitSet (statusWord s) k = false) ∧
    (s.cfg.layout = defaultLayout →
      (statusWord s).toNat =
        min ((s.tx.length + 3) / 4) 255 + min ((s.rx.length + 3) / 4) 255 * 2 ^ 8 +
        (if s.rx.length = 0 then 2 ^ 24 else 0) + (if s.rx.length = s.cfg.rxCap then 2 ^ 25 else 0) +
        (if s.tx.length = 0 then 2 ^ 28 else 0) + (if s.tx.length = s.cfg.txCap then 2 ^ 29 else 0) +
        (if s.engine = .ready then 2 ^ 31 else 0))

/-- The empty and full flags are exact in every state, so after every push and pop; never both, and with a
capacity of 1 exactly one of them. -/
def Obligations.EmptyAndFullFlagsAreExact : Prop :=
  ∀ s : State, s.cfg.wf = true →
    (bitSet (statusWord s) s.cfg.layout.status.txempty = true ↔ s.tx.length = 0) ∧
    (bitSet (statusWord s) s.cfg.layout.status.txfull = true ↔ s.tx.length = s.cfg.txCap) ∧
    (bitSet (statusWord s) s.cfg.layout.status.rxempty = true ↔ s.rx.length = 0) ∧
    (bitSet (statusWord s) s.cfg.layout.status.rxfull = true ↔ s.rx.length = s.cfg.rxCap) ∧
    (bitSet (statusWord s) s.cfg.layout.status.txempty && bitSet (statusWord s) s.cfg.layout.status.txfull) = false ∧
    (bitSet (statusWord s) s.cfg.layout.status.rxempty && bitSet (statusWord s) s.cfg.layout.status.rxfull) = false ∧
    (s.cfg.txCap = 1 → s.tx.length ≤ 1 →
      bitSet (statusWord s) s.cfg.layout.status.txempty = !bitSet (statusWord s) s.cfg.layout.status.txfull)

/-- RD.RXDATA removes the four oldest bytes, or all there are, and returns them with the oldest in bits 7:0 and
absent lanes 0; no error, no evaluation. How many bytes and in which order is the spec's decision D11. -/
def Obligations.ReceiveReadPopsAndPacksFourBytes : Prop :=
  ∀ s : State, ∃ w : Word,
    (∀ k < 4, w.extractLsb' (8 * k) 8 = s.rx.getD k 0) ∧
    exec .rdRxdata s = .next { s with rx := s.rx.drop 4, reply := some w }

/-- R75: every read but RD.RXDATA leaves the whole state alone (a bad-offset read emits its diagnostic) and
returns the same word when repeated; RD.RXDATA removes up to four bytes and is not idempotent. -/
def Obligations.OnlyTheReceiveReadHasASideEffect : Prop :=
  (∀ (i : Instr) (s t u : State), isRead i = true → i ≠ .rdRxdata → exec i s = .next t →
    t = { s with reply := t.reply, diags := t.diags } ∧
    ((∀ off, i ≠ .rdBad off) → t.diags = s.diags) ∧
    (exec i t = .next u → u.reply = t.reply)) ∧
  (∀ s t : State, exec .rdRxdata s = .next t →
    t = { s with rx := s.rx.drop 4, reply := t.reply }) ∧
  (∃ s t u : State, exec .rdRxdata s = .next t ∧ exec .rdRxdata t = .next u ∧ u.reply ≠ t.reply)

/-! Writes. -/

/-- R125: WR.INTR_STATE clears the bits written 1, runs no evaluation and never sets a bit; a line whose bit is
cleared goes inactive in the same step. -/
def Obligations.IntrStateWriteClearsOnes : Prop :=
  ∀ (s : State) (v : Word),
    (s.cfg.wf = true → decode s.cfg ⟨0x0100000000#40, v⟩ = .ok (.wrIntrState v)) ∧
    ∃ t, t = { s with intrState := s.intrState &&& ~~~v, reply := none } ∧
      exec (.wrIntrState v) s = .next t ∧
      (bitSet v s.cfg.layout.intrState.error = true → errorLine t = false) ∧
      (bitSet v s.cfg.layout.intrState.spiEvent = true → eventLine t = false)

/-- WR.ERROR_STATUS clears the bits written 1, sets none and leaves INTR_STATE alone (write-1-to-clear is the
spec's decision D8). -/
def Obligations.ErrorStatusWriteClearsOnes : Prop :=
  ∀ (s : State) (v : Word),
    (s.cfg.wf = true → decode s.cfg ⟨0x0100000030#40, v⟩ = .ok (.wrErrorStatus v)) ∧
    exec (.wrErrorStatus v) s = .next { s with errorStatus := s.errorStatus &&& ~~~v, reply := none }

/-- The laws of write-1-to-clear, stated of the two registers: bit by bit, idempotent, order-independent. -/
def Obligations.ClearingIsBitwiseIdempotentAndCommutative : Prop :=
  ∀ (s : State) (v w : Word) (t : State), exec (.wrIntrState v) s = .next t →
    (∀ k < 32, bitSet t.intrState k = (bitSet s.intrState k && !bitSet v k)) ∧
    exec (.wrIntrState v) t = .next t ∧
    (∀ u, exec (.wrIntrState w) t = .next u → exec (.wrIntrState (v ||| w)) s = .next u) ∧
    (∀ u e, exec (.wrErrorStatus v) s = .next u → exec (.wrErrorStatus w) u = .next e →
      exec (.wrErrorStatus (v ||| w)) s = .next e)

/-- R127: WR.INTR_ENABLE stores the word and evaluates nothing; the lines follow at once. -/
def Obligations.IntrEnableWriteStoresAndGatesTheLines : Prop :=
  ∀ (s : State) (v : Word),
    (s.cfg.wf = true → decode s.cfg ⟨0x0100000004#40, v⟩ = .ok (.wrIntrEnable v)) ∧
    ∃ t, t = { s with intrEnable := v, reply := none } ∧ exec (.wrIntrEnable v) s = .next t ∧
      errorLine t = (bitSet s.intrState s.cfg.layout.intrState.error &&
        bitSet v s.cfg.layout.intrEnable.error) ∧
      eventLine t = (bitSet s.intrState s.cfg.layout.intrState.spiEvent &&
        bitSet v s.cfg.layout.intrEnable.spiEvent)

/-- R131: WR.ALERT_TEST stores the word and leaves a diagnostic; every word a read returns is as before. -/
def Obligations.AlertTestWriteLeavesOnlyADiagnostic : Prop :=
  ∀ (s : State) (v : Word),
    (s.cfg.wf = true → decode s.cfg ⟨0x010000000C#40, v⟩ = .ok (.wrAlertTest v)) ∧
    ∃ t, t = { s with alertTest := v, diags := s.diags ++ [.unimp .alertTest], reply := none } ∧
      exec (.wrAlertTest v) s = .next t ∧
      ∀ i a b, isRead i = true → exec i s = .next a → exec i t = .next b → b.reply = a.reply

/-- WR.CONTROL stores all 32 bits and does nothing else, SW_RST and OUTPUT_EN leave a diagnostic each: in
particular nothing is reset (that SPIEN has no effect is the spec's decision D14). -/
def Obligations.ControlWriteOnlyStores : Prop :=
  ∀ (s : State) (v : Word),
    (s.cfg.wf = true → decode s.cfg ⟨0x0100000010#40, v⟩ = .ok (.wrControl v)) ∧
    exec (.wrControl v) s = .next { s with
      control := v
      diags := s.diags ++
        (if bitSet v s.cfg.layout.control.swRst then [.unimp .swRst] else []) ++
        (if bitSet v s.cfg.layout.control.outputEn then [.unimp .outputEn] else [])
      reply := none }

/-- R135, R165: a write of a read-only register has no effect. -/
def Obligations.ReadOnlyRegistersIgnoreWrites : Prop :=
  ∀ (s : State) (v : Word),
    (s.cfg.wf = true → decode s.cfg ⟨0x0100000014#40, v⟩ = .ok (.wrStatus v) ∧
      decode s.cfg ⟨writeCode s.cfg.offRxdata, v⟩ = .ok (.wrRxdata v)) ∧
    exec (.wrStatus v) s = .next { s with reply := none } ∧
    exec (.wrRxdata v) s = .next { s with reply := none }

/-- R106, R123: an offset that is no register's, every misaligned one among them, selects RD.BAD or WR.BAD; both
complete, change nothing of the block and leave a diagnostic. -/
def Obligations.BadOffsetsAreNonFatalAndInert : Prop :=
  ∀ (s : State) (off v : Word),
    (s.cfg.wf = true → off.toNat % 4 ≠ 0 → BadOff s.cfg off) ∧
    (BadOff s.cfg off →
      decode s.cfg ⟨readCode off, v⟩ = .ok (.rdBad off) ∧
      decode s.cfg ⟨writeCode off, v⟩ = .ok (.wrBad off v)) ∧
    (∃ w, exec (.rdBad off) s = .next { s with diags := s.diags ++ [.badRead off], reply := some w }) ∧
    exec (.wrBad off v) s = .next { s with diags := s.diags ++ [.badWrite off], reply := none }

/-- RD.BAD returns 0 (the spec's decision D10). -/
def Obligations.BadOffsetReadReturnsZero : Prop :=
  ∀ (s : State) (off : Word),
    exec (.rdBad off) s = .next { s with diags := s.diags ++ [.badRead off], reply := some 0 }

/-- R137, R141: the enable register is stored whole, then the evaluator runs; the reserved events leave a
diagnostic. -/
def Obligations.CauseEnableWritesStoreThenEvaluate : Prop :=
  ∀ (s : State) (v : Word),
    (s.cfg.wf = true → decode s.cfg ⟨0x010000002C#40, v⟩ = .ok (.wrErrorEnable v) ∧
      decode s.cfg ⟨writeCode s.cfg.offEventEnable, v⟩ = .ok (.wrEventEnable v)) ∧
    exec (.wrErrorEnable v) s = .next { evaluate { s with errorEnable := v } with reply := none } ∧
    exec (.wrEventEnable v) s = .next { evaluate { s with
      eventEnable := v
      diags := s.diags ++
        (if bitSet v s.cfg.layout.eventEnable.rxwm || bitSet v s.cfg.layout.eventEnable.txwm ||
            bitSet v s.cfg.layout.eventEnable.idle
          then [.unimp .event] else []) } with reply := none }

/-- WR.INTR_TEST stores the word as a level, then the evaluator runs; reset and another write are the only ways
to take a forced bit back (a stored level is the spec's decision D21). -/
def Obligations.IntrTestWriteForcesUntilRewritten : Prop :=
  (∀ (s : State) (v : Word),
    (s.cfg.wf = true → decode s.cfg ⟨0x0100000008#40, v⟩ = .ok (.wrIntrTest v)) ∧
    exec (.wrIntrTest v) s = .next { evaluate { s with intrTest := v } with reply := none }) ∧
  ∀ (i : Instr) (s t : State), exec i s = .next t → ¬ Writes .intrTest i → i ≠ .reset →
    t.intrTest = s.intrTest

/-- WR.TXDATA pushes bits 7:0, or drops the byte when the FIFO is full, in every engine state; then the
evaluator runs in both cases, and no error bit is set (which byte is pushed is the spec's decision D12). -/
def Obligations.TransmitWritePushesTheLowByte : Prop :=
  ∀ (s : State) (v : Word),
    (s.cfg.wf = true → decode s.cfg ⟨writeCode s.cfg.offTxdata, v⟩ = .ok (.wrTxdata v)) ∧
    (s.tx.length = s.cfg.txCap → exec (.wrTxdata v) s = .next { evaluate s with reply := none }) ∧
    (s.tx.length ≠ s.cfg.txCap → exec (.wrTxdata v) s =
      .next { evaluate { s with tx := s.tx ++ [v.extractLsb' 0 8] } with reply := none })

/-- R160, R161: push appends at the back and refuses when full; pop takes the front; bytes leave in the order
they entered. -/
def Obligations.QueuesAreFirstInFirstOut : Prop :=
  (∀ (q : List Byte) (cap : Nat) (b : Byte),
    (q.length = cap → push q cap b = (false, q)) ∧ (q.length ≠ cap → push q cap b = (true, q ++ [b]))) ∧
  (pop [] = none ∧ ∀ (q : List Byte) (b : Byte), pop (b :: q) = some (b, q)) ∧
  (∀ (q bs : List Byte) (cap : Nat), q.length ≤ cap → pushAll cap q bs = (q ++ bs).take cap) ∧
  (∀ (q : List Byte) (k : Nat), popAll k q = (q.take k, q.drop k))

/-- R42: only WR.TXDATA, COMPLETE and RESET write the transmit FIFO, only COMPLETE, RD.RXDATA and RESET the
receive FIFO, each in its own way; the capacities bound both. -/
def Obligations.QueueWritersAndBounds : Prop :=
  (∀ (i : Instr) (s t : State), exec i s = .next t →
    (¬ Writes .txdata i → i ≠ .complete → i ≠ .reset → t.tx = s.tx) ∧
    (i ≠ .rdRxdata → i ≠ .complete → i ≠ .reset → t.rx = s.rx) ∧
    (Writes .txdata i → t.tx = s.tx ∨ ∃ b, t.tx = s.tx ++ [b]) ∧
    (i = .complete → t.tx = [] ∧ s.rx <+: t.rx) ∧
    (i = .rdRxdata → t.rx <:+ s.rx) ∧
    (i = .reset → t.tx = [] ∧ t.rx = []) ∧
    (s.tx.length ≤ s.cfg.txCap → t.tx.length ≤ t.cfg.txCap) ∧
    (s.rx.length ≤ s.cfg.rxCap → t.rx.length ≤ t.cfg.rxCap)) ∧
  State.reset.tx = [] ∧ State.reset.rx = []

/-! The command engine. -/

/-- WR.COMMAND while READY is accepted: the word stored, the length latched, READY cleared, no byte moved; while
BUSY it is rejected and only ERROR_STATUS.CMDBUSY is set. Both evaluate (the spec's decision D7; D24 for
what is stored, D15 for the width of LEN). -/
def Obligations.CommandWriteIsAcceptedOrRejected : Prop :=
  ∀ (s : State) (v : Word),
    (s.cfg.wf = true → decode s.cfg ⟨0x0100000020#40, v⟩ = .ok (.wrCommand v)) ∧
    (s.engine = .ready → exec (.wrCommand v) s = .next { evaluate { s with
      command := v
      engine := .busy (v.toNat % 2 ^ s.cfg.layout.command.lenWidth)
      diags := s.diags ++
        (if bitSet v s.cfg.layout.command.csaat then [.unimp .csaat] else []) ++
        (if fieldVal s.cfg.layout.command.speed v ≠ 0 then [.unimp .speed] else []) ++
        (if fieldVal s.cfg.layout.command.direction v ≠ 3 then [.unimp .direction] else []) } with
      reply := none }) ∧
    (∀ n, s.engine = .busy n → exec (.wrCommand v) s = .next { evaluate { s with
      errorStatus := s.errorStatus ||| BitVec.twoPow 32 s.cfg.layout.errorStatus.cmdbusy } with
      reply := none })

/-- R183, R85: COMPLETE makes exactly n exchanges, sends the queued bytes oldest first and zeros after them,
appends the responses in call order as far as the receive FIFO has room, discards what is left in the
transmit FIFO, sets READY and evaluates. -/
def Obligations.CompletionExchangesExactlyTheSegment : Prop :=
  ∀ (s : State) (n : Nat), s.engine = .busy n → s.rx.length ≤ s.cfg.rxCap →
    (∀ (x : BitVec 33) (v : Word), decode s.cfg ⟨kindCode 1 x, v⟩ = .ok .complete) ∧
    ∃ rs : List Byte, rs.length = n ∧
      exec .complete s = .next { evaluate { s with
        tx := []
        rx := (s.rx ++ rs).take s.cfg.rxCap
        engine := .ready
        xlog := s.xlog ++ (sentBytes n s.tx).zip rs
        answers := s.answers.drop n } with reply := none }

/-- Which bytes the transport answers (log entry 7): the bytes put forward in State.answers, in call order, and
past their end the free value, which may depend on the byte sent and on every exchange before. -/
def Obligations.TransportAnswersInCallOrder : Prop :=
  ∀ (s : State) (n : Nat), s.engine = .busy n →
    ∃ (rs : List Byte) (t : State), rs.length = n ∧ exec .complete s = .next t ∧
      t.xlog = s.xlog ++ (sentBytes n s.tx).zip rs ∧
      ∀ k < n, rs.getD k 0 =
        match s.answers[k]? with
        | some r => r
        | none => Config.transport (s.xlog ++ ((sentBytes n s.tx).zip rs).take k) ((sentBytes n s.tx).getD k 0)

/-- A zero-length command is accepted; its completion makes no exchange, empties the transmit FIFO, sets READY
and evaluates (the spec's decision D30). -/
def Obligations.ZeroLengthCommandOnlyDrainsTheQueue : Prop :=
  (∀ (s t : State) (v : Word), s.engine = .ready → v.toNat % 2 ^ s.cfg.layout.command.lenWidth = 0 →
    exec (.wrCommand v) s = .next t → t.engine = .busy 0) ∧
  (∀ s : State, s.engine = .busy 0 → exec .complete s =
    .next { evaluate { s with tx := [], engine := .ready } with reply := none })

/-- COMPLETE is not enabled while the engine is READY: the model refuses it by name, in that state and in no
other (log entry 6). -/
def Obligations.CompletionIsRefusedExactlyWhileReady : Prop :=
  ∀ s : State, exec .complete s = .refused .completeNotEnabled ↔ s.engine = .ready

/-- R180: the engine changes by the table of transitions and in no other way. -/
def Obligations.EngineFollowsItsTransitionTable : Prop :=
  ∀ (i : Instr) (s t : State), exec i s = .next t →
    t.engine = nextEngine i s ∧ (i = .complete → ∃ n, s.engine = .busy n)

/-- WR.COMMAND and COMPLETE leave the registers of R188 alone; COMPLETE moves INTR_STATE only through its final
evaluation. -/
def Obligations.EngineOperationsLeaveOtherRegistersAlone : Prop :=
  ∀ (i : Instr) (s t : State), (Writes .command i ∨ i = .complete) → exec i s = .next t →
    (t.intrEnable = s.intrEnable ∧ t.intrTest = s.intrTest ∧ t.alertTest = s.alertTest ∧
      t.control = s.control ∧ t.configTable = s.configTable ∧ t.csid = s.csid ∧
      t.errorEnable = s.errorEnable ∧ t.eventEnable = s.eventEnable) ∧
    (i = .complete → t.command = s.command ∧ t.errorStatus = s.errorStatus) ∧
    evaluate { t with intrState := s.intrState } = t

/-- Nothing of the command word but LEN matters (R184's first clause; its full-duplex exchange is
CompletionExchangesExactlyTheSegment): two words of one length lead to states that differ only in the stored word
and the diagnostics, and a completion reads neither the word nor the chip-select. -/
def Obligations.OnlyTheLengthOfACommandMatters : Prop :=
  (∀ (s t u : State) (v w : Word),
    v.toNat % 2 ^ s.cfg.layout.command.lenWidth = w.toNat % 2 ^ s.cfg.layout.command.lenWidth →
    exec (.wrCommand v) s = .next t → exec (.wrCommand w) s = .next u →
    u = { t with command := u.command, diags := u.diags }) ∧
  (∀ (s : State) (w id : Word) (table : List Word),
    exec .complete { s with command := w, csid := id, configTable := table } =
      mapNext (fun t => { t with command := w, csid := id, configTable := table }) (exec .complete s))

/-! Chip-select. -/

/-- WR.CSID stores a value below NUM_CS; any other, by all 32 bits, is rejected: CSID stays and
ERROR_STATUS.CSIDINVAL is set. Both evaluate (the spec's decisions D7 and D32). -/
def Obligations.CsidWriteIsRangeChecked : Prop :=
  ∀ (s : State) (v : Word),
    (s.cfg.wf = true → decode s.cfg ⟨0x010000001C#40, v⟩ = .ok (.wrCsid v)) ∧
    (v.toNat < s.cfg.numCs →
      exec (.wrCsid v) s = .next { evaluate { s with csid := v } with reply := none }) ∧
    (s.cfg.numCs ≤ v.toNat → exec (.wrCsid v) s = .next { evaluate { s with
      errorStatus := s.errorStatus ||| BitVec.twoPow 32 s.cfg.layout.errorStatus.csidinval } with
      reply := none })

/-- R202, R203: CONFIGOPTS reads and writes the table entry that CSID selects at the access, every other entry is
unchanged, and a read after the write returns the word. -/
def Obligations.ConfigoptsReachesTheSelectedEntry : Prop :=
  ∀ (s : State) (v : Word), StateInv s →
    decode s.cfg ⟨0x0000000018#40, v⟩ = .ok .rdConfigopts ∧
    decode s.cfg ⟨0x0100000018#40, v⟩ = .ok (.wrConfigopts v) ∧
    (∃ w, s.configTable[s.csid.toNat]? = some w ∧
      exec .rdConfigopts s = .next { s with reply := some w }) ∧
    (∃ t, exec (.wrConfigopts v) s = .next t ∧
      t = { s with configTable := t.configTable, diags := s.diags ++ [.unimp .configopts], reply := none } ∧
      t.configTable.length = s.configTable.length ∧
      t.configTable[s.csid.toNat]? = some v ∧
      (∀ j, j ≠ s.csid.toNat → t.configTable[j]? = s.configTable[j]?) ∧
      exec .rdConfigopts t = .next { t with reply := some v })

/-- Where the table has no entry at CSID, which R23 (a) rules out, a CONFIGOPTS access faults by name (log
entry 10). -/
def Obligations.ConfigoptsWithoutEntryFaults : Prop :=
  ∀ (s : State) (v : Word), s.configTable.length ≤ s.csid.toNat →
    exec .rdConfigopts s = .fault .noTableEntry ∧ exec (.wrConfigopts v) s = .fault .noTableEntry

/-- Entries that CSID does not select are neither read nor changed by any operation but RESET, and a rejected
CSID write does not move the selector. -/
def Obligations.TableEntriesAreIndependent : Prop :=
  (∀ (i : Instr) (s : State) (j : Nat) (w : Word), i ≠ .reset → j ≠ s.csid.toNat →
    exec i { s with configTable := s.configTable.set j w } =
      mapNext (fun t => { t with configTable := t.configTable.set j w }) (exec i s)) ∧
  (∀ (i : Instr) (s t : State) (j : Nat), i ≠ .reset → j ≠ s.csid.toNat → exec i s = .next t →
    t.configTable[j]? = s.configTable[j]?) ∧
  (∀ (s t : State) (v : Word), s.cfg.numCs ≤ v.toNat → exec (.wrCsid v) s = .next t → t.csid = s.csid)

/-! Errors and interrupts. -/

/-- R221: raising is exactly setting the kind's bit; an error bit then stays 1 under every operation but
WR.ERROR_STATUS and RESET. -/
def Obligations.ErrorBitsStayUntilCleared : Prop :=
  (∀ s : State,
    raiseCommandBusy s =
      { s with errorStatus := s.errorStatus ||| BitVec.twoPow 32 s.cfg.layout.errorStatus.cmdbusy } ∧
    raiseInvalidCsid s =
      { s with errorStatus := s.errorStatus ||| BitVec.twoPow 32 s.cfg.layout.errorStatus.csidinval } ∧
    raiseCommandBusy (raiseCommandBusy s) = raiseCommandBusy s ∧
    raiseInvalidCsid (raiseInvalidCsid s) = raiseInvalidCsid s) ∧
  (∀ (i : Instr) (s t : State) (k : Nat), exec i s = .next t → ¬ Writes .errorStatus i → i ≠ .reset →
    bitSet s.errorStatus k = true → bitSet t.errorStatus k = true)

/-- Only a command while BUSY and an out-of-range CSID set an error bit, each its own. -/
def Obligations.OnlyBusyAndInvalidCsidSetErrorBits : Prop :=
  ∀ (i : Instr) (s t : State) (k : Nat), exec i s = .next t →
    bitSet s.errorStatus k = false → bitSet t.errorStatus k = true →
    (k = s.cfg.layout.errorStatus.cmdbusy ∧ Writes .command i ∧ s.engine ≠ .ready) ∨
    (k = s.cfg.layout.errorStatus.csidinval ∧ ∃ v, i = .wrCsid v ∧ s.cfg.numCs ≤ v.toNat)

/-- R230: the evaluator latches each line's bit exactly when the line is enabled and one of its causes holds (a
bit already latched stays), and changes nothing else. -/
def Obligations.EvaluatorLatchesEnabledCauses : Prop :=
  ∀ s : State, s.cfg.wf = true → ∃ w : Word, evaluate s = { s with intrState := w } ∧
    ∀ k < 32, bitSet w k =
      if k = s.cfg.layout.intrState.error then
        bitSet s.intrState k || (bitSet s.intrEnable s.cfg.layout.intrEnable.error &&
          (bitSet s.intrTest s.cfg.layout.intrTest.error ||
            (bitSet s.errorEnable s.cfg.layout.errorEnable.cmdbusy &&
              bitSet s.errorStatus s.cfg.layout.errorStatus.cmdbusy) ||
            (bitSet s.errorEnable s.cfg.layout.errorEnable.cmdinval &&
              bitSet s.errorStatus s.cfg.layout.errorStatus.cmdinval) ||
            (bitSet s.errorEnable s.cfg.layout.errorEnable.csidinval &&
              bitSet s.errorStatus s.cfg.layout.errorStatus.csidinval)))
      else if k = s.cfg.layout.intrState.spiEvent then
        bitSet s.intrState k || (bitSet s.intrEnable s.cfg.layout.intrEnable.spiEvent &&
          (bitSet s.intrTest s.cfg.layout.intrTest.spiEvent ||
            (bitSet s.eventEnable s.cfg.layout.eventEnable.ready &&
              bitSet (statusWord s) s.cfg.layout.status.ready) ||
            (bitSet s.eventEnable s.cfg.layout.eventEnable.txempty &&
              bitSet (statusWord s) s.cfg.layout.status.txempty) ||
            (bitSet s.eventEnable s.cfg.layout.eventEnable.rxfull &&
              bitSet (statusWord s) s.cfg.layout.status.rxfull)))
      else bitSet s.intrState k

/-- R231: the listed inputs are all the causes there are: two states that agree on INTR_STATE, INTR_ENABLE and
these bits evaluate to one INTR_STATE; and the CMDINVAL term is false in every state of a run. -/
def Obligations.ListedInputsAreTheOnlyCauses : Prop :=
  (∀ s t : State, s.cfg = t.cfg → s.cfg.wf = true →
    s.intrState = t.intrState → s.intrEnable = t.intrEnable →
    bitSet s.intrTest s.cfg.layout.intrTest.error = bitSet t.intrTest s.cfg.layout.intrTest.error →
    bitSet s.intrTest s.cfg.layout.intrTest.spiEvent = bitSet t.intrTest s.cfg.layout.intrTest.spiEvent →
    (∀ k ∈ [s.cfg.layout.errorEnable.cmdbusy, s.cfg.layout.errorEnable.cmdinval,
        s.cfg.layout.errorEnable.csidinval], bitSet s.errorEnable k = bitSet t.errorEnable k) →
    (∀ k ∈ [s.cfg.layout.errorStatus.cmdbusy, s.cfg.layout.errorStatus.cmdinval,
        s.cfg.layout.errorStatus.csidinval], bitSet s.errorStatus k = bitSet t.errorStatus k) →
    (∀ k ∈ [s.cfg.layout.eventEnable.ready, s.cfg.layout.eventEnable.txempty,
        s.cfg.layout.eventEnable.rxfull], bitSet s.eventEnable k = bitSet t.eventEnable k) →
    (∀ k ∈ [s.cfg.layout.status.ready, s.cfg.layout.status.txempty,
        s.cfg.layout.status.rxfull], bitSet (statusWord s) k = bitSet (statusWord t) k) →
    (evaluate s).intrState = (evaluate t).intrState) ∧
  (∀ s : State, StateInv s → bitSet s.errorStatus s.cfg.layout.errorStatus.cmdinval = false)

/-- After each operation that runs the evaluator, an enabled line with a true cause has its bit latched and a
further evaluation changes nothing; no other operation sets an INTR_STATE bit (the list of operations is the
spec's decision D7). -/
def Obligations.OnlyListedOperationsEvaluate : Prop :=
  ∀ (i : Instr) (s t : State), exec i s = .next t →
    (evaluates i = true → evaluate t = t ∧
      (s.cfg.wf = true → bitSet t.intrEnable t.cfg.layout.intrEnable.error = true → errCause t = true →
        bitSet t.intrState t.cfg.layout.intrState.error = true) ∧
      (s.cfg.wf = true → bitSet t.intrEnable t.cfg.layout.intrEnable.spiEvent = true → evtCause t = true →
        bitSet t.intrState t.cfg.layout.intrState.spiEvent = true)) ∧
    (evaluates i = false → ∀ k, bitSet t.intrState k = true → bitSet s.intrState k = true)

/-- R234: an INTR_STATE bit is cleared only by WR.INTR_STATE with a 1 in its place and by RESET; the evaluator
clears none. -/
def Obligations.IntrStateIsClearedOnlyByAcknowledgeOrReset : Prop :=
  (∀ (i : Instr) (s t : State) (k : Nat), exec i s = .next t → i ≠ .reset →
    bitSet s.intrState k = true → bitSet t.intrState k = false → ∃ v, i = .wrIntrState v ∧ bitSet v k = true) ∧
  (∀ (s : State) (k : Nat), bitSet s.intrState k = true → bitSet (evaluate s).intrState k = true) ∧
  (∀ s t : State, exec .reset s = .next t → t.intrState = 0)

/-- Firing and the lines: a step that latches a bit leaves its line active, a line is active exactly when bit and
enable are both 1, and RESET leaves both inactive (the level of the lines is the spec's decision D6). -/
def Obligations.FiringMakesTheLineActive : Prop :=
  (∀ (i : Instr) (s t : State), s.cfg.wf = true → exec i s = .next t →
    (bitSet s.intrState s.cfg.layout.intrState.error = false →
      bitSet t.intrState s.cfg.layout.intrState.error = true → errorLine t = true) ∧
    (bitSet s.intrState s.cfg.layout.intrState.spiEvent = false →
      bitSet t.intrState s.cfg.layout.intrState.spiEvent = true → eventLine t = true)) ∧
  (∀ s t : State, exec .reset s = .next t → errorLine t = false ∧ eventLine t = false)

/-! Reset. -/

/-- RESET puts every field of R22 at its reset value, in every state, and touches neither the exchange log nor
the diagnostics. READY, the whole table and the cancelled completion are the spec's decisions D5, D16, D25. -/
def Obligations.ResetRestoresEveryField : Prop :=
  ∀ s : State,
    (∀ (x : BitVec 33) (v : Word), decode s.cfg ⟨kindCode 2 x, v⟩ = .ok .reset) ∧
    exec .reset s = .next { State.resetOf s.cfg with
      xlog := s.xlog, diags := s.diags, answers := s.answers, inbox := s.inbox } ∧
    (State.resetOf s.cfg).control = 0x0000007F#32 ∧ (State.resetOf s.cfg).errorEnable = 0x0000001F#32 ∧
    (State.resetOf s.cfg).intrState = 0 ∧ (State.resetOf s.cfg).intrEnable = 0 ∧
    (State.resetOf s.cfg).intrTest = 0 ∧ (State.resetOf s.cfg).alertTest = 0 ∧
    (State.resetOf s.cfg).configTable = List.replicate s.cfg.numCs 0 ∧ (State.resetOf s.cfg).csid = 0 ∧
    (State.resetOf s.cfg).command = 0 ∧ (State.resetOf s.cfg).errorStatus = 0 ∧
    (State.resetOf s.cfg).eventEnable = 0 ∧ (State.resetOf s.cfg).tx = [] ∧ (State.resetOf s.cfg).rx = [] ∧
    (State.resetOf s.cfg).engine = .ready

/-- What the host reads after RESET: the reset column of R24, STATUS 0x91000000 under the default layout, and
CONFIGOPTS 0 for every CSID. READY in STATUS is the spec's decision D5. -/
def Obligations.ReadsAfterResetReturnTheResetValues : Prop :=
  ∀ (s t u : State) (r : Reg), s.cfg.wf = true → s.cfg.layout = defaultLayout → exec .reset s = .next t →
    (exec (Instr.read r) t = .next u →
      u.reply = some (match r with
        | .control => 0x0000007F#32
        | .status => 0x91000000#32
        | .errorEnable => 0x0000001F#32
        | _ => 0#32)) ∧
    (∀ (v : Word) (a b : State), v.toNat < s.cfg.numCs → exec (.wrCsid v) t = .next a →
      exec .rdConfigopts a = .next b → b.reply = some 0)

/-- RESET cancels a pending completion: none is enabled after it, no exchange took place and nothing of the
command is in the receive FIFO; a new command is accepted (the spec's decisions D5 and D25). -/
def Obligations.ResetCancelsThePendingCompletion : Prop :=
  ∀ (s t : State) (v : Word), exec .reset s = .next t →
    exec .complete t = .refused .completeNotEnabled ∧ t.xlog = s.xlog ∧ t.rx = [] ∧
    ∃ u, exec (.wrCommand v) t = .next u ∧ u.command = v ∧
      u.engine = .busy (v.toNat % 2 ^ s.cfg.layout.command.lenWidth)

/-! Whole-machine rules. -/

/-- The frame of every operation over the registers: each changes only by the operations the spec names for it.
The block has no memory, so there is no byte of memory to keep. -/
def Obligations.RegistersChangeOnlyByTheirWriters : Prop :=
  ∀ (i : Instr) (s t : State), exec i s = .next t → i ≠ .reset →
    (¬ Writes .intrState i → evaluates i = false → t.intrState = s.intrState) ∧
    (¬ Writes .intrEnable i → t.intrEnable = s.intrEnable) ∧
    (¬ Writes .intrTest i → t.intrTest = s.intrTest) ∧
    (¬ Writes .alertTest i → t.alertTest = s.alertTest) ∧
    (¬ Writes .control i → t.control = s.control) ∧
    (¬ Writes .configopts i → t.configTable = s.configTable) ∧
    (¬ Writes .csid i → t.csid = s.csid) ∧
    (¬ Writes .command i → t.command = s.command) ∧
    (¬ Writes .errorEnable i → t.errorEnable = s.errorEnable) ∧
    (¬ Writes .errorStatus i → ¬ Writes .command i → ¬ Writes .csid i → t.errorStatus = s.errorStatus) ∧
    (¬ Writes .eventEnable i → t.eventEnable = s.eventEnable) ∧
    (∀ k, k ≠ s.cfg.layout.intrState.error → k ≠ s.cfg.layout.intrState.spiEvent → ¬ Writes .intrState i →
      bitSet t.intrState k = bitSet s.intrState k)

/-- The exchange log and the diagnostics only grow, RESET included; only COMPLETE exchanges, and only the
operations with a diagnostic emit one (log entry 9 for recording them at all). -/
def Obligations.LogsOnlyGrow : Prop :=
  ∀ (i : Instr) (s t : State), exec i s = .next t →
    s.xlog <+: t.xlog ∧ s.diags <+: t.diags ∧
    (i ≠ .complete → t.xlog = s.xlog ∧ t.answers = s.answers) ∧
    ((∀ off, i ≠ .rdBad off) → (∀ off v, i ≠ .wrBad off v) → ¬ Writes .alertTest i → ¬ Writes .control i →
      ¬ Writes .command i → ¬ Writes .configopts i → ¬ Writes .eventEnable i → t.diags = s.diags)

/-- CONTROL and ALERT_TEST influence nothing: whatever they hold, every operation that neither reads CONTROL nor
writes one of them does the same (no SPIEN gate: the spec's decision D14). -/
def Obligations.ControlAndAlertTestInfluenceNothing : Prop :=
  ∀ (i : Instr) (s : State) (c a : Word), i ≠ .rdControl → ¬ Writes .control i → ¬ Writes .alertTest i →
    i ≠ .reset →
    exec i { s with control := c, alertTest := a } =
      mapNext (fun t => { t with control := c, alertTest := a }) (exec i s)
end

