-- ==== Sys2Proof/Laws/PerInstr.lean ====
section
/-! SUPPORT. The family StepCode: what every operation's encoding looks like (30_encoding.md R101). -/

namespace Sys2Proof.Laws.StepCode

/-- A bus operation's code has kind 0, the two events kinds 1 and 2; no code has a bit above the step code. -/
def Statement (i : Instr) : Prop :=
  ∀ c : Config, (encode c i).code.extractLsb' 35 5 = 0 ∧
    (encode c i).kind = (match i with | .complete => 1#2 | .reset => 2#2 | _ => 0#2)

/-- The fields of a step code. -/
theorem stepCode_fields (k : BitVec 2) (we : Bool) (off : Word) :
    (stepCode k we off).extractLsb' 35 5 = 0 ∧ (stepCode k we off).extractLsb' 33 2 = k := by
  constructor <;>
  · ext i hi
    simp only [stepCode, BitVec.getElem_extractLsb', BitVec.getLsbD_append]
    simp (disch := omega) [hi]
    try omega

theorem readRequest_fields (off : Word) :
    (readRequest off).code.extractLsb' 35 5 = 0 ∧ (readRequest off).kind = 0#2 :=
  stepCode_fields 0 false off

theorem writeRequest_fields (off v : Word) :
    (writeRequest off v).code.extractLsb' 35 5 = 0 ∧ (writeRequest off v).kind = 0#2 :=
  stepCode_fields 0 true off

theorem rdIntrState : Statement .rdIntrState := fun _ => readRequest_fields _
theorem wrIntrState (v : Word) : Statement (.wrIntrState v) := fun _ => writeRequest_fields _ _
theorem rdIntrEnable : Statement .rdIntrEnable := fun _ => readRequest_fields _
theorem wrIntrEnable (v : Word) : Statement (.wrIntrEnable v) := fun _ => writeRequest_fields _ _
theorem rdIntrTest : Statement .rdIntrTest := fun _ => readRequest_fields _
theorem wrIntrTest (v : Word) : Statement (.wrIntrTest v) := fun _ => writeRequest_fields _ _
theorem rdAlertTest : Statement .rdAlertTest := fun _ => readRequest_fields _
theorem wrAlertTest (v : Word) : Statement (.wrAlertTest v) := fun _ => writeRequest_fields _ _
theorem rdControl : Statement .rdControl := fun _ => readRequest_fields _
theorem wrControl (v : Word) : Statement (.wrControl v) := fun _ => writeRequest_fields _ _
theorem rdStatus : Statement .rdStatus := fun _ => readRequest_fields _
theorem wrStatus (v : Word) : Statement (.wrStatus v) := fun _ => writeRequest_fields _ _
theorem rdConfigopts : Statement .rdConfigopts := fun _ => readRequest_fields _
theorem wrConfigopts (v : Word) : Statement (.wrConfigopts v) := fun _ => writeRequest_fields _ _
theorem rdCsid : Statement .rdCsid := fun _ => readRequest_fields _
theorem wrCsid (v : Word) : Statement (.wrCsid v) := fun _ => writeRequest_fields _ _
theorem rdCommand : Statement .rdCommand := fun _ => readRequest_fields _
theorem wrCommand (v : Word) : Statement (.wrCommand v) := fun _ => writeRequest_fields _ _
theorem rdTxdata : Statement .rdTxdata := fun _ => readRequest_fields _
theorem wrTxdata (v : Word) : Statement (.wrTxdata v) := fun _ => writeRequest_fields _ _
theorem rdRxdata : Statement .rdRxdata := fun _ => readRequest_fields _
theorem wrRxdata (v : Word) : Statement (.wrRxdata v) := fun _ => writeRequest_fields _ _
theorem rdErrorEnable : Statement .rdErrorEnable := fun _ => readRequest_fields _
theorem wrErrorEnable (v : Word) : Statement (.wrErrorEnable v) := fun _ => writeRequest_fields _ _
theorem rdErrorStatus : Statement .rdErrorStatus := fun _ => readRequest_fields _
theorem wrErrorStatus (v : Word) : Statement (.wrErrorStatus v) := fun _ => writeRequest_fields _ _
theorem rdEventEnable : Statement .rdEventEnable := fun _ => readRequest_fields _
theorem wrEventEnable (v : Word) : Statement (.wrEventEnable v) := fun _ => writeRequest_fields _ _
theorem rdBad (off : Word) : Statement (.rdBad off) := fun _ => readRequest_fields _
theorem wrBad (off v : Word) : Statement (.wrBad off v) := fun _ => writeRequest_fields _ _
theorem complete : Statement .complete := fun _ => stepCode_fields 1 false 0
theorem reset : Statement .reset := fun _ => stepCode_fields 2 false 0

end Sys2Proof.Laws.StepCode
end

