-- ==== Sys2Proof/Laws/Decode.lean ====
section
/-! SUPPORT. What the decoder makes of a step code, and which register stands at an offset. -/

namespace Sys2Proof

/-- The two lower fields of a step code. -/
theorem stepCode_low_fields (k : BitVec 2) (we : Bool) (off : Word) :
    (stepCode k we off).getLsbD 32 = we ∧ (stepCode k we off).extractLsb' 0 32 = off := by
  constructor
  · unfold stepCode
    rw [BitVec.getLsbD_append, BitVec.getLsbD_append]
    cases we <;> rfl
  · ext i hi
    simp only [stepCode, BitVec.getElem_extractLsb', BitVec.getLsbD_append]
    simp (disch := omega) [hi]
    try omega

/-- A bus read's code, `we` 0, has nothing above its offset. -/
theorem stepCode_read (off : Word) : stepCode 0 false off = 0#8 ++ off := by
  apply BitVec.eq_of_getLsbD_eq
  intro i hi
  unfold stepCode
  rw [BitVec.getLsbD_append, BitVec.getLsbD_append, BitVec.getLsbD_append, BitVec.getLsbD_append]
  by_cases h : i < 32
  · simp (disch := omega) [h]
    omega
  · simp [h]

/-- A bus write's code has `we` 1 at bit 32. -/
theorem stepCode_write (off : Word) : stepCode 0 true off = 1#8 ++ off := by
  apply BitVec.eq_of_getLsbD_eq
  intro i hi
  unfold stepCode
  rw [BitVec.getLsbD_append, BitVec.getLsbD_append, BitVec.getLsbD_append, BitVec.getLsbD_append]
  by_cases h : i < 32
  · simp (disch := omega) [h]
    omega
  · obtain ⟨j, rfl⟩ : ∃ j, i = 32 + j := ⟨i - 32, by omega⟩
    have hj : j < 8 := by omega
    interval_cases j <;> rfl

/-- A step code of kind 0 decodes to the bus operation of its `we` and `off`. -/
theorem decode_bus (c : Config) (we : Bool) (off v : Word) :
    decode c ⟨stepCode 0 we off, v⟩ = .ok (decodeBus c we off v) := by
  obtain ⟨h1, h2⟩ := Laws.StepCode.stepCode_fields 0 we off
  obtain ⟨h3, h4⟩ := stepCode_low_fields 0 we off
  simp only [decode, Request.kind, Request.we, Request.off, h1, h2, h3, h4]
  rfl

/-- Under a meaningful configuration each register stands at its own offset only. -/
theorem regAt_offset (c : Config) (h : c.wf = true) (r : Reg) : regAt c (c.offset r) = some r := by
  simp only [Config.wf, Bool.and_eq_true] at h
  obtain ⟨⟨⟨-, hd⟩, he⟩, -⟩ := h
  simp [Config.eventOffsetOk, Reg.all, Config.offset, Bool.and_eq_true] at he
  simp [Config.dataOffsetsOk] at hd
  rcases hd with ⟨h1, h2⟩ | ⟨h1, h2⟩ <;> simp [h1, h2] at he <;> cases r <;>
    simp [regAt, Reg.all, Config.offset, h1, h2, List.find?]
  all_goals simp [beq_eq_false_iff_ne.mpr, he]

/-- An offset that is no register's has no register. -/
theorem regAt_eq_none {c : Config} {off : Word} (h : ∀ r, c.offset r ≠ off) : regAt c off = none := by
  simp [regAt, h]

end Sys2Proof
end

