-- ==== Sys2Proof/Laws/State.lean ====
section
/-! SUPPORT. What each named update of State does to each field: one lemma a field. -/

namespace Sys2Proof.Machine

/-! `emit` (R250) -/

@[simp] theorem emit_cfg (d : Diag) (s : State) : (emit d s).cfg = s.cfg := rfl
@[simp] theorem emit_intrState (d : Diag) (s : State) : (emit d s).intrState = s.intrState := rfl
@[simp] theorem emit_intrEnable (d : Diag) (s : State) : (emit d s).intrEnable = s.intrEnable := rfl
@[simp] theorem emit_intrTest (d : Diag) (s : State) : (emit d s).intrTest = s.intrTest := rfl
@[simp] theorem emit_alertTest (d : Diag) (s : State) : (emit d s).alertTest = s.alertTest := rfl
@[simp] theorem emit_control (d : Diag) (s : State) : (emit d s).control = s.control := rfl
@[simp] theorem emit_configTable (d : Diag) (s : State) : (emit d s).configTable = s.configTable := rfl
@[simp] theorem emit_csid (d : Diag) (s : State) : (emit d s).csid = s.csid := rfl
@[simp] theorem emit_command (d : Diag) (s : State) : (emit d s).command = s.command := rfl
@[simp] theorem emit_errorEnable (d : Diag) (s : State) : (emit d s).errorEnable = s.errorEnable := rfl
@[simp] theorem emit_errorStatus (d : Diag) (s : State) : (emit d s).errorStatus = s.errorStatus := rfl
@[simp] theorem emit_eventEnable (d : Diag) (s : State) : (emit d s).eventEnable = s.eventEnable := rfl
@[simp] theorem emit_tx (d : Diag) (s : State) : (emit d s).tx = s.tx := rfl
@[simp] theorem emit_rx (d : Diag) (s : State) : (emit d s).rx = s.rx := rfl
@[simp] theorem emit_engine (d : Diag) (s : State) : (emit d s).engine = s.engine := rfl
@[simp] theorem emit_xlog (d : Diag) (s : State) : (emit d s).xlog = s.xlog := rfl
@[simp] theorem emit_diags (d : Diag) (s : State) : (emit d s).diags = s.diags ++ [d] := rfl
@[simp] theorem emit_reply (d : Diag) (s : State) : (emit d s).reply = s.reply := rfl
@[simp] theorem emit_answers (d : Diag) (s : State) : (emit d s).answers = s.answers := rfl
@[simp] theorem emit_inbox (d : Diag) (s : State) : (emit d s).inbox = s.inbox := rfl

/-! `raise` (R221) -/

@[simp] theorem raiseCommandBusy_cfg (s : State) : (raiseCommandBusy s).cfg = s.cfg := rfl
@[simp] theorem raiseCommandBusy_intrState (s : State) : (raiseCommandBusy s).intrState = s.intrState := rfl
@[simp] theorem raiseCommandBusy_intrEnable (s : State) : (raiseCommandBusy s).intrEnable = s.intrEnable := rfl
@[simp] theorem raiseCommandBusy_intrTest (s : State) : (raiseCommandBusy s).intrTest = s.intrTest := rfl
@[simp] theorem raiseCommandBusy_alertTest (s : State) : (raiseCommandBusy s).alertTest = s.alertTest := rfl
@[simp] theorem raiseCommandBusy_control (s : State) : (raiseCommandBusy s).control = s.control := rfl
@[simp] theorem raiseCommandBusy_configTable (s : State) : (raiseCommandBusy s).configTable = s.configTable := rfl
@[simp] theorem raiseCommandBusy_csid (s : State) : (raiseCommandBusy s).csid = s.csid := rfl
@[simp] theorem raiseCommandBusy_command (s : State) : (raiseCommandBusy s).command = s.command := rfl
@[simp] theorem raiseCommandBusy_errorEnable (s : State) : (raiseCommandBusy s).errorEnable = s.errorEnable := rfl
@[simp] theorem raiseCommandBusy_errorStatus (s : State) : (raiseCommandBusy s).errorStatus = s.errorStatus ||| bitMask s.cfg.layout.errorStatus.cmdbusy := rfl
@[simp] theorem raiseCommandBusy_eventEnable (s : State) : (raiseCommandBusy s).eventEnable = s.eventEnable := rfl
@[simp] theorem raiseCommandBusy_tx (s : State) : (raiseCommandBusy s).tx = s.tx := rfl
@[simp] theorem raiseCommandBusy_rx (s : State) : (raiseCommandBusy s).rx = s.rx := rfl
@[simp] theorem raiseCommandBusy_engine (s : State) : (raiseCommandBusy s).engine = s.engine := rfl
@[simp] theorem raiseCommandBusy_xlog (s : State) : (raiseCommandBusy s).xlog = s.xlog := rfl
@[simp] theorem raiseCommandBusy_diags (s : State) : (raiseCommandBusy s).diags = s.diags := rfl
@[simp] theorem raiseCommandBusy_reply (s : State) : (raiseCommandBusy s).reply = s.reply := rfl
@[simp] theorem raiseCommandBusy_answers (s : State) : (raiseCommandBusy s).answers = s.answers := rfl
@[simp] theorem raiseCommandBusy_inbox (s : State) : (raiseCommandBusy s).inbox = s.inbox := rfl

@[simp] theorem raiseInvalidCsid_cfg (s : State) : (raiseInvalidCsid s).cfg = s.cfg := rfl
@[simp] theorem raiseInvalidCsid_intrState (s : State) : (raiseInvalidCsid s).intrState = s.intrState := rfl
@[simp] theorem raiseInvalidCsid_intrEnable (s : State) : (raiseInvalidCsid s).intrEnable = s.intrEnable := rfl
@[simp] theorem raiseInvalidCsid_intrTest (s : State) : (raiseInvalidCsid s).intrTest = s.intrTest := rfl
@[simp] theorem raiseInvalidCsid_alertTest (s : State) : (raiseInvalidCsid s).alertTest = s.alertTest := rfl
@[simp] theorem raiseInvalidCsid_control (s : State) : (raiseInvalidCsid s).control = s.control := rfl
@[simp] theorem raiseInvalidCsid_configTable (s : State) : (raiseInvalidCsid s).configTable = s.configTable := rfl
@[simp] theorem raiseInvalidCsid_csid (s : State) : (raiseInvalidCsid s).csid = s.csid := rfl
@[simp] theorem raiseInvalidCsid_command (s : State) : (raiseInvalidCsid s).command = s.command := rfl
@[simp] theorem raiseInvalidCsid_errorEnable (s : State) : (raiseInvalidCsid s).errorEnable = s.errorEnable := rfl
@[simp] theorem raiseInvalidCsid_errorStatus (s : State) : (raiseInvalidCsid s).errorStatus = s.errorStatus ||| bitMask s.cfg.layout.errorStatus.csidinval := rfl
@[simp] theorem raiseInvalidCsid_eventEnable (s : State) : (raiseInvalidCsid s).eventEnable = s.eventEnable := rfl
@[simp] theorem raiseInvalidCsid_tx (s : State) : (raiseInvalidCsid s).tx = s.tx := rfl
@[simp] theorem raiseInvalidCsid_rx (s : State) : (raiseInvalidCsid s).rx = s.rx := rfl
@[simp] theorem raiseInvalidCsid_engine (s : State) : (raiseInvalidCsid s).engine = s.engine := rfl
@[simp] theorem raiseInvalidCsid_xlog (s : State) : (raiseInvalidCsid s).xlog = s.xlog := rfl
@[simp] theorem raiseInvalidCsid_diags (s : State) : (raiseInvalidCsid s).diags = s.diags := rfl
@[simp] theorem raiseInvalidCsid_reply (s : State) : (raiseInvalidCsid s).reply = s.reply := rfl
@[simp] theorem raiseInvalidCsid_answers (s : State) : (raiseInvalidCsid s).answers = s.answers := rfl
@[simp] theorem raiseInvalidCsid_inbox (s : State) : (raiseInvalidCsid s).inbox = s.inbox := rfl

/-! `acknowledge` (R242) -/

@[simp] theorem acknowledge_cfg (v : Word) (s : State) : (acknowledge v s).cfg = s.cfg := rfl
@[simp] theorem acknowledge_intrState (v : Word) (s : State) : (acknowledge v s).intrState = clearOnes s.intrState v := rfl
@[simp] theorem acknowledge_intrEnable (v : Word) (s : State) : (acknowledge v s).intrEnable = s.intrEnable := rfl
@[simp] theorem acknowledge_intrTest (v : Word) (s : State) : (acknowledge v s).intrTest = s.intrTest := rfl
@[simp] theorem acknowledge_alertTest (v : Word) (s : State) : (acknowledge v s).alertTest = s.alertTest := rfl
@[simp] theorem acknowledge_control (v : Word) (s : State) : (acknowledge v s).control = s.control := rfl
@[simp] theorem acknowledge_configTable (v : Word) (s : State) : (acknowledge v s).configTable = s.configTable := rfl
@[simp] theorem acknowledge_csid (v : Word) (s : State) : (acknowledge v s).csid = s.csid := rfl
@[simp] theorem acknowledge_command (v : Word) (s : State) : (acknowledge v s).command = s.command := rfl
@[simp] theorem acknowledge_errorEnable (v : Word) (s : State) : (acknowledge v s).errorEnable = s.errorEnable := rfl
@[simp] theorem acknowledge_errorStatus (v : Word) (s : State) : (acknowledge v s).errorStatus = s.errorStatus := rfl
@[simp] theorem acknowledge_eventEnable (v : Word) (s : State) : (acknowledge v s).eventEnable = s.eventEnable := rfl
@[simp] theorem acknowledge_tx (v : Word) (s : State) : (acknowledge v s).tx = s.tx := rfl
@[simp] theorem acknowledge_rx (v : Word) (s : State) : (acknowledge v s).rx = s.rx := rfl
@[simp] theorem acknowledge_engine (v : Word) (s : State) : (acknowledge v s).engine = s.engine := rfl
@[simp] theorem acknowledge_xlog (v : Word) (s : State) : (acknowledge v s).xlog = s.xlog := rfl
@[simp] theorem acknowledge_diags (v : Word) (s : State) : (acknowledge v s).diags = s.diags := rfl
@[simp] theorem acknowledge_reply (v : Word) (s : State) : (acknowledge v s).reply = s.reply := rfl
@[simp] theorem acknowledge_answers (v : Word) (s : State) : (acknowledge v s).answers = s.answers := rfl
@[simp] theorem acknowledge_inbox (v : Word) (s : State) : (acknowledge v s).inbox = s.inbox := rfl

/-! The end of a completion (R183) -/

@[simp] theorem finishTransfer_cfg (s : State) : (finishTransfer s).cfg = s.cfg := rfl
@[simp] theorem finishTransfer_intrState (s : State) : (finishTransfer s).intrState = s.intrState := rfl
@[simp] theorem finishTransfer_intrEnable (s : State) : (finishTransfer s).intrEnable = s.intrEnable := rfl
@[simp] theorem finishTransfer_intrTest (s : State) : (finishTransfer s).intrTest = s.intrTest := rfl
@[simp] theorem finishTransfer_alertTest (s : State) : (finishTransfer s).alertTest = s.alertTest := rfl
@[simp] theorem finishTransfer_control (s : State) : (finishTransfer s).control = s.control := rfl
@[simp] theorem finishTransfer_configTable (s : State) : (finishTransfer s).configTable = s.configTable := rfl
@[simp] theorem finishTransfer_csid (s : State) : (finishTransfer s).csid = s.csid := rfl
@[simp] theorem finishTransfer_command (s : State) : (finishTransfer s).command = s.command := rfl
@[simp] theorem finishTransfer_errorEnable (s : State) : (finishTransfer s).errorEnable = s.errorEnable := rfl
@[simp] theorem finishTransfer_errorStatus (s : State) : (finishTransfer s).errorStatus = s.errorStatus := rfl
@[simp] theorem finishTransfer_eventEnable (s : State) : (finishTransfer s).eventEnable = s.eventEnable := rfl
@[simp] theorem finishTransfer_tx (s : State) : (finishTransfer s).tx = [] := rfl
@[simp] theorem finishTransfer_rx (s : State) : (finishTransfer s).rx = s.rx := rfl
@[simp] theorem finishTransfer_engine (s : State) : (finishTransfer s).engine = .ready := rfl
@[simp] theorem finishTransfer_xlog (s : State) : (finishTransfer s).xlog = s.xlog := rfl
@[simp] theorem finishTransfer_diags (s : State) : (finishTransfer s).diags = s.diags := rfl
@[simp] theorem finishTransfer_reply (s : State) : (finishTransfer s).reply = s.reply := rfl
@[simp] theorem finishTransfer_answers (s : State) : (finishTransfer s).answers = s.answers := rfl
@[simp] theorem finishTransfer_inbox (s : State) : (finishTransfer s).inbox = s.inbox := rfl

/-! One exchange (R183) -/

@[simp] theorem exchangeOne_cfg (s : State) : (exchangeOne s).cfg = s.cfg := rfl
@[simp] theorem exchangeOne_intrState (s : State) : (exchangeOne s).intrState = s.intrState := rfl
@[simp] theorem exchangeOne_intrEnable (s : State) : (exchangeOne s).intrEnable = s.intrEnable := rfl
@[simp] theorem exchangeOne_intrTest (s : State) : (exchangeOne s).intrTest = s.intrTest := rfl
@[simp] theorem exchangeOne_alertTest (s : State) : (exchangeOne s).alertTest = s.alertTest := rfl
@[simp] theorem exchangeOne_control (s : State) : (exchangeOne s).control = s.control := rfl
@[simp] theorem exchangeOne_configTable (s : State) : (exchangeOne s).configTable = s.configTable := rfl
@[simp] theorem exchangeOne_csid (s : State) : (exchangeOne s).csid = s.csid := rfl
@[simp] theorem exchangeOne_command (s : State) : (exchangeOne s).command = s.command := rfl
@[simp] theorem exchangeOne_errorEnable (s : State) : (exchangeOne s).errorEnable = s.errorEnable := rfl
@[simp] theorem exchangeOne_errorStatus (s : State) : (exchangeOne s).errorStatus = s.errorStatus := rfl
@[simp] theorem exchangeOne_eventEnable (s : State) : (exchangeOne s).eventEnable = s.eventEnable := rfl
@[simp] theorem exchangeOne_tx (s : State) : (exchangeOne s).tx = txRest s := rfl
@[simp] theorem exchangeOne_rx (s : State) : (exchangeOne s).rx = (push s.rx s.cfg.rxCap (response (sendByte s) s)).2 := rfl
@[simp] theorem exchangeOne_engine (s : State) : (exchangeOne s).engine = s.engine := rfl
@[simp] theorem exchangeOne_xlog (s : State) : (exchangeOne s).xlog = s.xlog ++ [(sendByte s, response (sendByte s) s)] := rfl
@[simp] theorem exchangeOne_diags (s : State) : (exchangeOne s).diags = s.diags := rfl
@[simp] theorem exchangeOne_reply (s : State) : (exchangeOne s).reply = s.reply := rfl
@[simp] theorem exchangeOne_answers (s : State) : (exchangeOne s).answers = s.answers.tail := rfl
@[simp] theorem exchangeOne_inbox (s : State) : (exchangeOne s).inbox = s.inbox := rfl

/-! `emitIf` (R250) -/

@[simp] theorem emitIf_cfg (b : Bool) (d : Diag) (s : State) : (emitIf b d s).cfg = s.cfg := by cases b <;> rfl
@[simp] theorem emitIf_intrState (b : Bool) (d : Diag) (s : State) : (emitIf b d s).intrState = s.intrState := by cases b <;> rfl
@[simp] theorem emitIf_intrEnable (b : Bool) (d : Diag) (s : State) : (emitIf b d s).intrEnable = s.intrEnable := by cases b <;> rfl
@[simp] theorem emitIf_intrTest (b : Bool) (d : Diag) (s : State) : (emitIf b d s).intrTest = s.intrTest := by cases b <;> rfl
@[simp] theorem emitIf_alertTest (b : Bool) (d : Diag) (s : State) : (emitIf b d s).alertTest = s.alertTest := by cases b <;> rfl
@[simp] theorem emitIf_control (b : Bool) (d : Diag) (s : State) : (emitIf b d s).control = s.control := by cases b <;> rfl
@[simp] theorem emitIf_configTable (b : Bool) (d : Diag) (s : State) : (emitIf b d s).configTable = s.configTable := by cases b <;> rfl
@[simp] theorem emitIf_csid (b : Bool) (d : Diag) (s : State) : (emitIf b d s).csid = s.csid := by cases b <;> rfl
@[simp] theorem emitIf_command (b : Bool) (d : Diag) (s : State) : (emitIf b d s).command = s.command := by cases b <;> rfl
@[simp] theorem emitIf_errorEnable (b : Bool) (d : Diag) (s : State) : (emitIf b d s).errorEnable = s.errorEnable := by cases b <;> rfl
@[simp] theorem emitIf_errorStatus (b : Bool) (d : Diag) (s : State) : (emitIf b d s).errorStatus = s.errorStatus := by cases b <;> rfl
@[simp] theorem emitIf_eventEnable (b : Bool) (d : Diag) (s : State) : (emitIf b d s).eventEnable = s.eventEnable := by cases b <;> rfl
@[simp] theorem emitIf_tx (b : Bool) (d : Diag) (s : State) : (emitIf b d s).tx = s.tx := by cases b <;> rfl
@[simp] theorem emitIf_rx (b : Bool) (d : Diag) (s : State) : (emitIf b d s).rx = s.rx := by cases b <;> rfl
@[simp] theorem emitIf_engine (b : Bool) (d : Diag) (s : State) : (emitIf b d s).engine = s.engine := by cases b <;> rfl
@[simp] theorem emitIf_xlog (b : Bool) (d : Diag) (s : State) : (emitIf b d s).xlog = s.xlog := by cases b <;> rfl
@[simp] theorem emitIf_diags (b : Bool) (d : Diag) (s : State) : (emitIf b d s).diags = s.diags ++ (if b then [d] else []) := by cases b <;> simp [emitIf]
@[simp] theorem emitIf_reply (b : Bool) (d : Diag) (s : State) : (emitIf b d s).reply = s.reply := by cases b <;> rfl
@[simp] theorem emitIf_answers (b : Bool) (d : Diag) (s : State) : (emitIf b d s).answers = s.answers := by cases b <;> rfl
@[simp] theorem emitIf_inbox (b : Bool) (d : Diag) (s : State) : (emitIf b d s).inbox = s.inbox := by cases b <;> rfl

/-! `evaluate` (R230): nothing but INTR_STATE -/

@[simp] theorem evaluate_cfg (s : State) : (evaluate s).cfg = s.cfg := rfl
@[simp] theorem evaluate_intrEnable (s : State) : (evaluate s).intrEnable = s.intrEnable := rfl
@[simp] theorem evaluate_intrTest (s : State) : (evaluate s).intrTest = s.intrTest := rfl
@[simp] theorem evaluate_alertTest (s : State) : (evaluate s).alertTest = s.alertTest := rfl
@[simp] theorem evaluate_control (s : State) : (evaluate s).control = s.control := rfl
@[simp] theorem evaluate_configTable (s : State) : (evaluate s).configTable = s.configTable := rfl
@[simp] theorem evaluate_csid (s : State) : (evaluate s).csid = s.csid := rfl
@[simp] theorem evaluate_command (s : State) : (evaluate s).command = s.command := rfl
@[simp] theorem evaluate_errorEnable (s : State) : (evaluate s).errorEnable = s.errorEnable := rfl
@[simp] theorem evaluate_errorStatus (s : State) : (evaluate s).errorStatus = s.errorStatus := rfl
@[simp] theorem evaluate_eventEnable (s : State) : (evaluate s).eventEnable = s.eventEnable := rfl
@[simp] theorem evaluate_tx (s : State) : (evaluate s).tx = s.tx := rfl
@[simp] theorem evaluate_rx (s : State) : (evaluate s).rx = s.rx := rfl
@[simp] theorem evaluate_engine (s : State) : (evaluate s).engine = s.engine := rfl
@[simp] theorem evaluate_xlog (s : State) : (evaluate s).xlog = s.xlog := rfl
@[simp] theorem evaluate_diags (s : State) : (evaluate s).diags = s.diags := rfl
@[simp] theorem evaluate_reply (s : State) : (evaluate s).reply = s.reply := rfl
@[simp] theorem evaluate_answers (s : State) : (evaluate s).answers = s.answers := rfl
@[simp] theorem evaluate_inbox (s : State) : (evaluate s).inbox = s.inbox := rfl

/-! The accept branch of WR.COMMAND (R181) -/

@[simp] theorem acceptCommand_cfg (v : Word) (s : State) : (acceptCommand v s).cfg = s.cfg := by simp [acceptCommand, emitCommandDiags]
@[simp] theorem acceptCommand_intrState (v : Word) (s : State) : (acceptCommand v s).intrState = s.intrState := by simp [acceptCommand, emitCommandDiags]
@[simp] theorem acceptCommand_intrEnable (v : Word) (s : State) : (acceptCommand v s).intrEnable = s.intrEnable := by simp [acceptCommand, emitCommandDiags]
@[simp] theorem acceptCommand_intrTest (v : Word) (s : State) : (acceptCommand v s).intrTest = s.intrTest := by simp [acceptCommand, emitCommandDiags]
@[simp] theorem acceptCommand_alertTest (v : Word) (s : State) : (acceptCommand v s).alertTest = s.alertTest := by simp [acceptCommand, emitCommandDiags]
@[simp] theorem acceptCommand_control (v : Word) (s : State) : (acceptCommand v s).control = s.control := by simp [acceptCommand, emitCommandDiags]
@[simp] theorem acceptCommand_configTable (v : Word) (s : State) : (acceptCommand v s).configTable = s.configTable := by simp [acceptCommand, emitCommandDiags]
@[simp] theorem acceptCommand_csid (v : Word) (s : State) : (acceptCommand v s).csid = s.csid := by simp [acceptCommand, emitCommandDiags]
@[simp] theorem acceptCommand_command (v : Word) (s : State) : (acceptCommand v s).command = v := by simp [acceptCommand, emitCommandDiags]
@[simp] theorem acceptCommand_errorEnable (v : Word) (s : State) : (acceptCommand v s).errorEnable = s.errorEnable := by simp [acceptCommand, emitCommandDiags]
@[simp] theorem acceptCommand_errorStatus (v : Word) (s : State) : (acceptCommand v s).errorStatus = s.errorStatus := by simp [acceptCommand, emitCommandDiags]
@[simp] theorem acceptCommand_eventEnable (v : Word) (s : State) : (acceptCommand v s).eventEnable = s.eventEnable := by simp [acceptCommand, emitCommandDiags]
@[simp] theorem acceptCommand_tx (v : Word) (s : State) : (acceptCommand v s).tx = s.tx := by simp [acceptCommand, emitCommandDiags]
@[simp] theorem acceptCommand_rx (v : Word) (s : State) : (acceptCommand v s).rx = s.rx := by simp [acceptCommand, emitCommandDiags]
@[simp] theorem acceptCommand_engine (v : Word) (s : State) : (acceptCommand v s).engine = .busy (segmentLength s.cfg v) := by simp [acceptCommand, emitCommandDiags]
@[simp] theorem acceptCommand_xlog (v : Word) (s : State) : (acceptCommand v s).xlog = s.xlog := by simp [acceptCommand, emitCommandDiags]
@[simp] theorem acceptCommand_diags (v : Word) (s : State) : (acceptCommand v s).diags = s.diags ++ (if bitSet v s.cfg.layout.command.csaat then [.unimp .csaat] else []) ++ (if fieldVal s.cfg.layout.command.speed v != 0 then [.unimp .speed] else []) ++ (if fieldVal s.cfg.layout.command.direction v != bidirectional then [.unimp .direction] else []) := by simp [acceptCommand, emitCommandDiags]
@[simp] theorem acceptCommand_reply (v : Word) (s : State) : (acceptCommand v s).reply = s.reply := by simp [acceptCommand, emitCommandDiags]
@[simp] theorem acceptCommand_answers (v : Word) (s : State) : (acceptCommand v s).answers = s.answers := by simp [acceptCommand, emitCommandDiags]
@[simp] theorem acceptCommand_inbox (v : Word) (s : State) : (acceptCommand v s).inbox = s.inbox := by simp [acceptCommand, emitCommandDiags]

/-! The loop of COMPLETE (R183): only the queues, the log and the answers move -/

@[simp] theorem exchangeLoop_cfg (n : Nat) (s : State) : (exchangeLoop n s).cfg = s.cfg := by
  induction n generalizing s with
  | zero => rfl
  | succ n ih => simp [exchangeLoop, ih]

@[simp] theorem exchangeLoop_intrState (n : Nat) (s : State) : (exchangeLoop n s).intrState = s.intrState := by
  induction n generalizing s with
  | zero => rfl
  | succ n ih => simp [exchangeLoop, ih]

@[simp] theorem exchangeLoop_intrEnable (n : Nat) (s : State) : (exchangeLoop n s).intrEnable = s.intrEnable := by
  induction n generalizing s with
  | zero => rfl
  | succ n ih => simp [exchangeLoop, ih]

@[simp] theorem exchangeLoop_intrTest (n : Nat) (s : State) : (exchangeLoop n s).intrTest = s.intrTest := by
  induction n generalizing s with
  | zero => rfl
  | succ n ih => simp [exchangeLoop, ih]

@[simp] theorem exchangeLoop_alertTest (n : Nat) (s : State) : (exchangeLoop n s).alertTest = s.alertTest := by
  induction n generalizing s with
  | zero => rfl
  | succ n ih => simp [exchangeLoop, ih]

@[simp] theorem exchangeLoop_control (n : Nat) (s : State) : (exchangeLoop n s).control = s.control := by
  induction n generalizing s with
  | zero => rfl
  | succ n ih => simp [exchangeLoop, ih]

@[simp] theorem exchangeLoop_configTable (n : Nat) (s : State) : (exchangeLoop n s).configTable = s.configTable := by
  induction n generalizing s with
  | zero => rfl
  | succ n ih => simp [exchangeLoop, ih]

@[simp] theorem exchangeLoop_csid (n : Nat) (s : State) : (exchangeLoop n s).csid = s.csid := by
  induction n generalizing s with
  | zero => rfl
  | succ n ih => simp [exchangeLoop, ih]

@[simp] theorem exchangeLoop_command (n : Nat) (s : State) : (exchangeLoop n s).command = s.command := by
  induction n generalizing s with
  | zero => rfl
  | succ n ih => simp [exchangeLoop, ih]

@[simp] theorem exchangeLoop_errorEnable (n : Nat) (s : State) : (exchangeLoop n s).errorEnable = s.errorEnable := by
  induction n generalizing s with
  | zero => rfl
  | succ n ih => simp [exchangeLoop, ih]

@[simp] theorem exchangeLoop_errorStatus (n : Nat) (s : State) : (exchangeLoop n s).errorStatus = s.errorStatus := by
  induction n generalizing s with
  | zero => rfl
  | succ n ih => simp [exchangeLoop, ih]

@[simp] theorem exchangeLoop_eventEnable (n : Nat) (s : State) : (exchangeLoop n s).eventEnable = s.eventEnable := by
  induction n generalizing s with
  | zero => rfl
  | succ n ih => simp [exchangeLoop, ih]

@[simp] theorem exchangeLoop_engine (n : Nat) (s : State) : (exchangeLoop n s).engine = s.engine := by
  induction n generalizing s with
  | zero => rfl
  | succ n ih => simp [exchangeLoop, ih]

@[simp] theorem exchangeLoop_diags (n : Nat) (s : State) : (exchangeLoop n s).diags = s.diags := by
  induction n generalizing s with
  | zero => rfl
  | succ n ih => simp [exchangeLoop, ih]

@[simp] theorem exchangeLoop_reply (n : Nat) (s : State) : (exchangeLoop n s).reply = s.reply := by
  induction n generalizing s with
  | zero => rfl
  | succ n ih => simp [exchangeLoop, ih]

@[simp] theorem exchangeLoop_inbox (n : Nat) (s : State) : (exchangeLoop n s).inbox = s.inbox := by
  induction n generalizing s with
  | zero => rfl
  | succ n ih => simp [exchangeLoop, ih]

end Sys2Proof.Machine
end

