-- ==== Sys2Proof/Laws/Ops.lean ====
section
/-! SUPPORT. One lemma per shared operation that says what it can do, for the provers to cite. -/

namespace Sys2Proof.Machine

/-! Ending a step. -/

theorem answer_eq_next {v : Word} {s t : State} :
    answer v s = .next t ↔ t = { s with reply := some v } := by
  unfold answer
  constructor
  · intro h; cases h; rfl
  · rintro rfl; rfl

theorem done_eq_next {s t : State} : done s = .next t ↔ t = { s with reply := none } := by
  unfold done
  constructor
  · intro h; cases h; rfl
  · rintro rfl; rfl

@[simp] theorem answer_ne_fault (v : Word) (s : State) (f : Fault) : answer v s ≠ .fault f := by
  simp [answer]

@[simp] theorem done_ne_fault (s : State) (f : Fault) : done s ≠ .fault f := by simp [done]

/-! Bits. -/

theorem bitSet_of_ge {v : Word} {k : Nat} (h : 32 ≤ k) : bitSet v k = false :=
  BitVec.getLsbD_of_ge v k h

@[simp] theorem bitSet_zero (k : Nat) : bitSet 0#32 k = false := by simp [bitSet]

@[simp] theorem bitSet_or (a b : Word) (k : Nat) : bitSet (a ||| b) k = (bitSet a k || bitSet b k) :=
  BitVec.getLsbD_or

@[simp] theorem bitSet_and (a b : Word) (k : Nat) : bitSet (a &&& b) k = (bitSet a k && bitSet b k) :=
  BitVec.getLsbD_and

theorem bitSet_bitMask (i k : Nat) : bitSet (bitMask i) k = (decide (i < 32) && decide (i = k)) := by
  simp [bitSet, bitMask, BitVec.getLsbD_twoPow]

@[simp] theorem bitSet_clearOnes (a v : Word) (k : Nat) :
    bitSet (clearOnes a v) k = (bitSet a k && !bitSet v k) := by
  by_cases h : k < 32
  · simp [clearOnes, bitSet, h]
  · simp [bitSet_of_ge (Nat.le_of_not_lt h)]

/-- Two words with the same bits are equal. -/
theorem word_ext {a b : Word} (h : ∀ k < 32, bitSet a k = bitSet b k) : a = b :=
  BitVec.eq_of_getLsbD_eq h

/-! The queues (R160, R161). -/

@[simp] theorem pop_nil : pop [] = none := rfl

@[simp] theorem pop_cons (b : Byte) (q : List Byte) : pop (b :: q) = some (b, q) := rfl

theorem push_snd (q : List Byte) (cap : Nat) (b : Byte) :
    (push q cap b).2 = if q.length = cap then q else q ++ [b] := by
  unfold push; split <;> rfl

@[simp] theorem sendByte_eq (s : State) : sendByte s = s.tx.headD 0 := by
  cases h : s.tx <;> simp [sendByte, h]

@[simp] theorem txRest_eq (s : State) : txRest s = s.tx.tail := by
  cases h : s.tx <;> simp [txRest, h]

/-! The evaluator (R230). -/

@[simp] theorem bitSet_flagWord (b : Bool) (i k : Nat) :
    bitSet (flagWord b i) k = (b && (decide (i < 32) && decide (i = k))) := by
  cases b <;> simp [flagWord, bitSet_bitMask]

/-- Every bit of INTR_STATE after an evaluation. -/
theorem bitSet_evaluate (s : State) (k : Nat) :
    bitSet (evaluate s).intrState k =
      (bitSet s.intrState k ||
        (errorFires s && (decide (s.cfg.layout.intrState.error < 32) &&
          decide (s.cfg.layout.intrState.error = k))) ||
        (eventFires s && (decide (s.cfg.layout.intrState.spiEvent < 32) &&
          decide (s.cfg.layout.intrState.spiEvent = k)))) := by
  simp [evaluate]

/-- The causes do not look at INTR_STATE. -/
@[simp] theorem errCause_evaluate (s : State) : errCause (evaluate s) = errCause s := rfl

@[simp] theorem evtCause_evaluate (s : State) : evtCause (evaluate s) = evtCause s := rfl

/-- An evaluation clears no bit (R234). -/
theorem bitSet_evaluate_of_bitSet {s : State} {k : Nat} (h : bitSet s.intrState k = true) :
    bitSet (evaluate s).intrState k = true := by
  simp [bitSet_evaluate, h]

end Sys2Proof.Machine
end

