-- ==== Sys2Proof/Laws/Exec.lean ====
section
/-! SUPPORT. Said once: when an operation answers a next state, which one. Whole-machine rules cite
`exec_next` and `step_next` instead of unfolding the meanings. -/

namespace Sys2Proof.Machine

/-- The state an operation leaves, but for `reply`. -/
def effect (i : Instr) (s : State) : State :=
  match i with
  | .rdIntrState | .rdIntrEnable | .rdIntrTest | .rdAlertTest | .rdControl | .rdStatus | .rdConfigopts
  | .rdCsid | .rdCommand | .rdTxdata | .rdErrorEnable | .rdErrorStatus | .rdEventEnable
  | .wrStatus _ | .wrRxdata _ => s
  | .rdRxdata => { s with rx := (popLanes rxPop 0 0 s.rx).2 }
  | .rdBad off => emit (.badRead off) s
  | .wrBad off _ => emit (.badWrite off) s
  | .wrIntrState v => acknowledge v s
  | .wrIntrEnable v => { s with intrEnable := v }
  | .wrIntrTest v => evaluate { s with intrTest := v }
  | .wrAlertTest v => emit (.unimp .alertTest) { s with alertTest := v }
  | .wrControl v =>
    emitIf (bitSet v s.cfg.layout.control.outputEn) (.unimp .outputEn)
      (emitIf (bitSet v s.cfg.layout.control.swRst) (.unimp .swRst) { s with control := v })
  | .wrConfigopts v => emit (.unimp .configopts) { s with configTable := s.configTable.set s.csid.toNat v }
  | .wrCsid v => evaluate (if v.toNat ≥ s.cfg.numCs then raiseInvalidCsid s else { s with csid := v })
  | .wrCommand v =>
    match s.engine with
    | .busy _ => evaluate (raiseCommandBusy s)
    | .ready => evaluate (acceptCommand v s)
  | .wrTxdata v => evaluate { s with tx := (push s.tx s.cfg.txCap (lowByte v)).2 }
  | .wrErrorEnable v => evaluate { s with errorEnable := v }
  | .wrErrorStatus v => { s with errorStatus := clearOnes s.errorStatus v }
  | .wrEventEnable v => evaluate (emitIf (reservedEvents s.cfg v) (.unimp .event) { s with eventEnable := v })
  | .complete =>
    match s.engine with
    | .busy n => evaluate (finishTransfer (exchangeLoop n s))
    | .ready => s
  | .reset =>
    { State.resetOf s.cfg with
      xlog := s.xlog, diags := s.diags, reply := s.reply, answers := s.answers, inbox := s.inbox }

/-- The word a read returns; none for a write or an event. -/
def replyOf (i : Instr) (s : State) : Option Word :=
  match i with
  | .rdIntrState => some s.intrState
  | .rdIntrEnable => some s.intrEnable
  | .rdControl => some s.control
  | .rdStatus => some (statusWord s)
  | .rdConfigopts => s.configTable[s.csid.toNat]?
  | .rdCsid => some s.csid
  | .rdCommand => some s.command
  | .rdRxdata => some (popLanes rxPop 0 0 s.rx).1
  | .rdErrorEnable => some s.errorEnable
  | .rdErrorStatus => some s.errorStatus
  | .rdEventEnable => some s.eventEnable
  | .rdIntrTest | .rdAlertTest | .rdTxdata | .rdBad _ => some 0
  | .wrIntrState _ | .wrIntrEnable _ | .wrIntrTest _ | .wrAlertTest _ | .wrControl _ | .wrStatus _
  | .wrConfigopts _ | .wrCsid _ | .wrCommand _ | .wrTxdata _ | .wrRxdata _ | .wrErrorEnable _
  | .wrErrorStatus _ | .wrEventEnable _ | .wrBad _ _ | .complete | .reset => none

/-- What stops an operation: nothing, but for COMPLETE while READY and a CONFIGOPTS access without an entry. -/
def Stops (i : Instr) (s : State) : Prop :=
  match i with
  | .complete => s.engine = .ready
  | .rdConfigopts | .wrConfigopts _ => s.configTable.length ≤ s.csid.toNat
  | .rdIntrState | .wrIntrState _ | .rdIntrEnable | .wrIntrEnable _ | .rdIntrTest | .wrIntrTest _
  | .rdAlertTest | .wrAlertTest _ | .rdControl | .wrControl _ | .rdStatus | .wrStatus _
  | .rdCsid | .wrCsid _ | .rdCommand | .wrCommand _ | .rdTxdata | .wrTxdata _ | .rdRxdata | .wrRxdata _
  | .rdErrorEnable | .wrErrorEnable _ | .rdErrorStatus | .wrErrorStatus _ | .rdEventEnable
  | .wrEventEnable _ | .rdBad _ | .wrBad _ _ | .reset => False

/-- An operation that does not stop answers the state of `effect` with the reply of `replyOf`. -/
theorem exec_of_not_stops {i : Instr} {s : State} (h : ¬ Stops i s) :
    exec i s = .next { effect i s with reply := replyOf i s } := by
  cases i
  case rdConfigopts =>
    have hlt : s.csid.toNat < s.configTable.length := Nat.lt_of_not_le h
    simp [exec, execRdConfigopts, effect, replyOf, answer, List.getElem?_eq_getElem hlt]
  case wrConfigopts v =>
    have hlt : s.csid.toNat < s.configTable.length := Nat.lt_of_not_le h
    simp [exec, execWrConfigopts, effect, replyOf, done, hlt]
  case wrCommand v =>
    simp only [exec, execWrCommand, effect, replyOf]
    cases s.engine <;> rfl
  case complete =>
    cases he : s.engine with
    | ready => exact absurd he h
    | busy n => simp [exec, execComplete, effect, replyOf, done, he]
  all_goals rfl

/-- An operation that stops answers no next state. -/
theorem exec_of_stops {i : Instr} {s t : State} (h : Stops i s) : exec i s ≠ .next t := by
  cases i
  case rdConfigopts => simp [exec, execRdConfigopts, List.getElem?_eq_none (show _ ≤ _ from h)]
  case wrConfigopts v =>
    simp [exec, execWrConfigopts, Nat.not_lt.mpr (show s.configTable.length ≤ s.csid.toNat from h)]
  case complete => simp [exec, execComplete, show s.engine = .ready from h]
  all_goals exact False.elim h

/-- The inversion lemma of `exec`. -/
theorem exec_next {i : Instr} {s t : State} (h : exec i s = .next t) :
    ¬ Stops i s ∧ t = { effect i s with reply := replyOf i s } := by
  have hs : ¬ Stops i s := fun hs => exec_of_stops hs h
  refine ⟨hs, ?_⟩
  rw [exec_of_not_stops hs] at h
  cases h; rfl

/-- The inversion lemma of `step`: an operation ran, at the head of the inbox or the pending completion, or
nothing did. -/
theorem step_next {s t : State} (h : step s = .next t) :
    (∃ r rest i, s.inbox = r :: rest ∧ decode s.cfg r = .ok i ∧ exec i { s with inbox := rest } = .next t) ∨
    (∃ n, s.inbox = [] ∧ s.engine = .busy n ∧ exec .complete s = .next t) ∨
    (s.inbox = [] ∧ s.engine = .ready ∧ t = s) := by
  unfold step fetch at h
  cases hi : s.inbox with
  | cons r rest =>
    cases hd : decode s.cfg r with
    | ok i => exact .inl ⟨r, rest, i, rfl, hd, by simpa [hi, hd] using h⟩
    | error e => simp [hi, hd] at h
  | nil =>
    cases he : s.engine with
    | busy n => exact .inr (.inl ⟨n, rfl, rfl, by simpa [hi, he] using h⟩)
    | ready => exact .inr (.inr ⟨rfl, rfl, by simpa [hi, he] using h.symm⟩)

end Sys2Proof.Machine
end

