-- ==== Sys2Proof/Laws/Fields.lean ====
section
/-! SUPPORT. What a well-formed layout gives: its fields fit the word and are disjoint; and the bits of the words
that the STATUS word is made of. -/

namespace Sys2Proof.Machine

/-- Every field of a well-formed register fits the word. -/
theorem fits_of_fieldsWf {fs : List Field} (h : fieldsWf fs = true) {f : Field} (hf : f ∈ fs) :
    1 ≤ f.width ∧ f.lsb + f.width ≤ 32 := by
  induction fs with
  | nil => cases hf
  | cons g gs ih =>
    simp only [fieldsWf, Bool.and_eq_true, Field.fits, decide_eq_true_eq] at h
    rcases List.mem_cons.mp hf with rfl | hm
    · exact h.1.1
    · exact ih h.2 hm

/-- The fields of a well-formed register are disjoint pairwise. -/
theorem pairwise_disjoint_of_fieldsWf {fs : List Field} (h : fieldsWf fs = true) :
    fs.Pairwise (fun f g => f.lsb + f.width ≤ g.lsb ∨ g.lsb + g.width ≤ f.lsb) := by
  induction fs with
  | nil => exact .nil
  | cons f fs ih =>
    simp only [fieldsWf, Bool.and_eq_true, List.all_eq_true, Field.disjoint, Bool.or_eq_true,
      decide_eq_true_eq] at h
    exact .cons h.1.2 (ih h.2)

/-- Every bit of a field word. -/
theorem bitSet_fieldWord (f : Field) (n k : Nat) (hf : f.lsb + f.width ≤ 32) (hn : n < 2 ^ f.width) :
    bitSet (fieldWord f n) k =
      (decide (f.lsb ≤ k) && decide (k < f.lsb + f.width) && n.testBit (k - f.lsb)) := by
  have hz : ¬ k < f.lsb + f.width → f.lsb ≤ k → n.testBit (k - f.lsb) = false := fun h1 h2 =>
    Nat.testBit_lt_two_pow (Nat.lt_of_lt_of_le hn (Nat.pow_le_pow_right (by decide) (by omega)))
  simp only [bitSet, fieldWord, BitVec.getLsbD_shiftLeft, BitVec.getLsbD_ofNat]
  by_cases h1 : f.lsb ≤ k
  · by_cases h2 : k < f.lsb + f.width
    · simp [h1, h2, show k < 32 by omega, show k - f.lsb < 32 by omega]
    · simp [h2, hz h2 h1]
  · simp [h1]

/-- A clamped occupancy fits its field. -/
theorem statusTxqd_lt (s : State) : statusTxqd s < 2 ^ s.cfg.layout.status.txqd.width := by
  have := Nat.two_pow_pos s.cfg.layout.status.txqd.width
  unfold statusTxqd qd; omega

theorem statusRxqd_lt (s : State) : statusRxqd s < 2 ^ s.cfg.layout.status.rxqd.width := by
  have := Nat.two_pow_pos s.cfg.layout.status.rxqd.width
  unfold statusRxqd qd; omega

/-- Every bit of the STATUS word, where the occupancy fields fit it. -/
theorem bitSet_statusWord {s : State}
    (ht : s.cfg.layout.status.txqd.lsb + s.cfg.layout.status.txqd.width ≤ 32)
    (hr : s.cfg.layout.status.rxqd.lsb + s.cfg.layout.status.rxqd.width ≤ 32) (k : Nat) :
    bitSet (statusWord s) k =
      ((decide (s.cfg.layout.status.txqd.lsb ≤ k) &&
          decide (k < s.cfg.layout.status.txqd.lsb + s.cfg.layout.status.txqd.width) &&
          (statusTxqd s).testBit (k - s.cfg.layout.status.txqd.lsb)) ||
       (decide (s.cfg.layout.status.rxqd.lsb ≤ k) &&
          decide (k < s.cfg.layout.status.rxqd.lsb + s.cfg.layout.status.rxqd.width) &&
          (statusRxqd s).testBit (k - s.cfg.layout.status.rxqd.lsb)) ||
       (statusRxempty s && (decide (s.cfg.layout.status.rxempty < 32) &&
          decide (s.cfg.layout.status.rxempty = k))) ||
       (statusRxfull s && (decide (s.cfg.layout.status.rxfull < 32) &&
          decide (s.cfg.layout.status.rxfull = k))) ||
       (statusTxempty s && (decide (s.cfg.layout.status.txempty < 32) &&
          decide (s.cfg.layout.status.txempty = k))) ||
       (statusTxfull s && (decide (s.cfg.layout.status.txfull < 32) &&
          decide (s.cfg.layout.status.txfull = k))) ||
       (statusReady s && (decide (s.cfg.layout.status.ready < 32) &&
          decide (s.cfg.layout.status.ready = k)))) := by
  rw [statusWord]
  simp only [bitSet_or, bitSet_flagWord]
  rw [bitSet_fieldWord _ _ _ ht (statusTxqd_lt s), bitSet_fieldWord _ _ _ hr (statusRxqd_lt s)]

end Sys2Proof.Machine
end

