-- ==== Sys2Proof/Tests/Slice0.lean ====
section
/-! SUPPORT. The model's own tests: WellFormed, decoding by words written out from 30_encoding.md R101 and R102,
one-step tests whose expected values are those of 95_test_vectors.md (named by their ids), and, for every
statement with hypotheses, a witness that meets them. -/

open Sys2Proof Sys2Proof.Machine Sys2Proof.Claims

namespace Sys2Proof.Tests

/-! Small states. -/

/-- The next state, if there is one. -/
def nextOf : Host.Outcome State Fault Refusal → Option State
  | .next t => some t
  | .fault _ => none
  | .refused _ => none

/-- The state after one operation. -/
def after (i : Instr) (s : State) : Option State := nextOf (exec i s)

/-- The configuration of programs P4 of 95_test_vectors.md, with two chip-selects. -/
def small : Config := { defaultConfig with txCap := 4, rxCap := 2 }

/-- The reset state of `small`. -/
def s0 : State := State.resetOf small

/-- Three bytes queued for a command of length 3 in flight (V42-3), its responses put forward. -/
def busy3 : State :=
  { State.reset with command := 3, engine := .busy 3, tx := [0xAA, 0xBB, 0xCC], answers := [0x11, 0x22, 0x33] }

/-- State X of 95_test_vectors.md section 2.5: a forced error cause, its line enabled, nothing latched. -/
def forced : State := { State.reset with intrTest := 1, intrEnable := 1 }

/-- A request in the inbox. -/
def asked (code : BitVec 40) (v : Word) (s : State) : State := { s with inbox := [⟨code, v⟩] }

theorem inv_reset : StateInv State.reset :=
  ⟨by decide, by decide, by decide, by decide, by decide, by rfl, by rfl, by intro n h; cases h⟩

theorem inv_s0 : StateInv s0 :=
  ⟨by decide, by decide, by decide, by decide, by decide, by rfl, by rfl, by intro n h; cases h⟩

theorem inv_busy3 : StateInv busy3 :=
  ⟨by decide, by decide, by decide, by decide, by decide, by rfl, by rfl, by
    intro n h; cases h; decide⟩

/-! WellFormed: an ill-formed term for each check. -/

theorem test_default_config_wf : defaultConfig.wf = true := by decide

theorem test_swapped_data_offsets_wf :
    ({ defaultConfig with offTxdata := 0x28, offRxdata := 0x24 } : Config).wf = true := by decide

theorem test_num_cs_checked :
    ({ defaultConfig with numCs := 0 } : Config).numCsOk = false ∧
    ({ defaultConfig with numCs := 2 ^ 32 } : Config).numCsOk = false ∧
    ({ defaultConfig with numCs := 0 } : Config).wf = false := by decide

theorem test_caps_checked :
    ({ defaultConfig with txCap := 0 } : Config).wf = false ∧
    ({ defaultConfig with rxCap := 0 } : Config).wf = false := by decide

theorem test_data_offsets_checked :
    ({ defaultConfig with offRxdata := 0x24 } : Config).wf = false ∧
    ({ defaultConfig with offTxdata := 0x38 } : Config).wf = false := by decide

theorem test_event_offset_checked :
    ({ defaultConfig with offEventEnable := 0x36 } : Config).wf = false ∧
    ({ defaultConfig with offEventEnable := 0x30 } : Config).wf = false ∧
    ({ defaultConfig with offEventEnable := 0x24 } : Config).wf = false := by decide

theorem test_field_checks :
    Field.fits ⟨0, 0⟩ = false ∧ Field.fits ⟨25, 8⟩ = false ∧ Field.fits ⟨24, 8⟩ = true ∧
    Field.disjoint ⟨0, 8⟩ ⟨7, 1⟩ = false ∧ Field.disjoint ⟨0, 8⟩ ⟨8, 1⟩ = true := by decide

/-- One register's layout spoilt at a time: each is refused. -/
theorem test_layouts_checked :
    [{ defaultLayout with intrState := { error := 0, spiEvent := 0 } },
     { defaultLayout with intrEnable := { error := 32, spiEvent := 1 } },
     { defaultLayout with intrTest := { error := 1, spiEvent := 1 } },
     { defaultLayout with alertTest := { fatalFault := 32 } },
     { defaultLayout with control := { defaultLayout.control with txWatermark := ⟨7, 8⟩ } },
     { defaultLayout with status := { defaultLayout.status with rxempty := 25 } },
     { defaultLayout with configopts := { defaultLayout.configopts with clkdiv := ⟨0, 17⟩ } },
     { defaultLayout with command := { defaultLayout.command with lenWidth := 10 } },
     { defaultLayout with errorEnable := { defaultLayout.errorEnable with csidinval := 0 } },
     { defaultLayout with errorStatus := { defaultLayout.errorStatus with accessinval := 4 } },
     { defaultLayout with eventEnable := { defaultLayout.eventEnable with idle := 40 } }].all
      (fun l => l.wf == false) = true := by decide

theorem test_bad_offset_operations_checked :
    (Instr.rdBad 0x30).wf defaultConfig = false ∧ (Instr.wrBad 0x24 7).wf defaultConfig = false ∧
    (Instr.rdBad 0x38).wf defaultConfig = true ∧ (Instr.wrBad 0x26 7).wf defaultConfig = true := by decide

/-! Decoding: step codes {kind, we, off} of R101 and R102, the data word above bit 39. -/

theorem test_decode_interrupt_registers :
    decodeTableWord 40 0x0000000000 = some .rdIntrState ∧
    decodeTableWord 72 0x00000003_01_00000000 = some (.wrIntrState 3) ∧
    decodeTableWord 40 0x0000000004 = some .rdIntrEnable ∧
    decodeTableWord 72 0xFFFFFFFF_01_00000004 = some (.wrIntrEnable 0xFFFFFFFF) ∧
    decodeTableWord 40 0x0000000008 = some .rdIntrTest ∧
    decodeTableWord 72 0x00000001_01_00000008 = some (.wrIntrTest 1) ∧
    decodeTableWord 40 0x000000000C = some .rdAlertTest ∧
    decodeTableWord 72 0x00000001_01_0000000C = some (.wrAlertTest 1) := by decide

theorem test_decode_control_and_status :
    decodeTableWord 40 0x0000000010 = some .rdControl ∧
    decodeTableWord 72 0xC0000000_01_00000010 = some (.wrControl 0xC0000000) ∧
    decodeTableWord 40 0x0000000014 = some .rdStatus ∧
    decodeTableWord 72 0x00000001_01_00000014 = some (.wrStatus 1) := by decide

theorem test_decode_chip_select :
    decodeTableWord 40 0x0000000018 = some .rdConfigopts ∧
    decodeTableWord 72 0x80000004_01_00000018 = some (.wrConfigopts 0x80000004) ∧
    decodeTableWord 40 0x000000001C = some .rdCsid ∧
    decodeTableWord 72 0x00000005_01_0000001C = some (.wrCsid 5) := by decide

theorem test_decode_command_and_data :
    decodeTableWord 40 0x0000000020 = some .rdCommand ∧
    decodeTableWord 72 0x00000003_01_00000020 = some (.wrCommand 3) ∧
    decodeTableWord 40 0x0000000024 = some .rdTxdata ∧
    decodeTableWord 72 0x12345678_01_00000024 = some (.wrTxdata 0x12345678) ∧
    decodeTableWord 40 0x0000000028 = some .rdRxdata ∧
    decodeTableWord 72 0xFFFFFFFF_01_00000028 = some (.wrRxdata 0xFFFFFFFF) := by decide

theorem test_decode_error_and_event_registers :
    decodeTableWord 40 0x000000002C = some .rdErrorEnable ∧
    decodeTableWord 72 0x0000001F_01_0000002C = some (.wrErrorEnable 0x1F) ∧
    decodeTableWord 40 0x0000000030 = some .rdErrorStatus ∧
    decodeTableWord 72 0x00000010_01_00000030 = some (.wrErrorStatus 0x10) ∧
    decodeTableWord 40 0x0000000034 = some .rdEventEnable ∧
    decodeTableWord 72 0x00000010_01_00000034 = some (.wrEventEnable 0x10) := by decide

theorem test_decode_bad_offsets :
    decodeTableWord 40 0x0000000038 = some (.rdBad 0x38) ∧
    decodeTableWord 40 0x0000000022 = some (.rdBad 0x22) ∧
    decodeTableWord 40 0x00FFFFFFFC = some (.rdBad 0xFFFFFFFC) ∧
    decodeTableWord 72 0xFFFFFFFF_01_00000040 = some (.wrBad 0x40 0xFFFFFFFF) ∧
    decodeTableWord 72 0x000000AA_01_00000026 = some (.wrBad 0x26 0xAA) := by decide

/-- The events ignore `we` and `off`; kind 3 and a bit above the step code are refused by name. -/
theorem test_decode_events_and_refusals :
    decodeTableWord 40 0x0200000000 = some .complete ∧ decodeTableWord 40 0x0300000014 = some .complete ∧
    decodeTableWord 40 0x0400000000 = some .reset ∧ decodeTableWord 40 0x05FFFFFFFF = some .reset ∧
    decode defaultConfig ⟨0x0600000000, 0⟩ = .error .kindNeverOccurs ∧
    decode defaultConfig ⟨0x0800000014, 0⟩ = .error .bitsAboveStepCode := by
  refine ⟨by decide, by decide, by decide, by decide, by rfl, by rfl⟩

/-! Reads. -/

/-- R122 and V40-1. -/
theorem test_rd_bad :
    after (.rdBad 0x38) State.reset = some { State.reset with diags := [.badRead 0x38], reply := some 0 } := by
  decide

/-- R123 and V40-3. -/
theorem test_wr_bad :
    after (.wrBad 0x40 0xFFFFFFFF) busy3 = some { busy3 with diags := [.badWrite 0x40], reply := none } := by
  decide

/-- S1: the reads of the reset state. -/
theorem test_reads_after_reset :
    [Instr.rdIntrState, .rdIntrEnable, .rdIntrTest, .rdAlertTest, .rdControl, .rdStatus, .rdConfigopts, .rdCsid,
      .rdCommand, .rdTxdata, .rdRxdata, .rdErrorEnable, .rdErrorStatus, .rdEventEnable].map
        (fun i => (after i State.reset).map (·.reply)) =
      [0, 0, 0, 0, 0x7F, 0x91000000, 0, 0, 0, 0, 0, 0x1F, 0, 0].map (fun w => some (some w)) := by decide

/-- Reads return their own register. -/
theorem test_reads_return_their_register :
    (after .rdIntrState { State.reset with intrState := 3 }).map (·.reply) = some (some 3) ∧
    (after .rdIntrEnable { State.reset with intrEnable := 0xFFFFFFFF }).map (·.reply)
      = some (some 0xFFFFFFFF) ∧
    (after .rdErrorStatus { State.reset with errorStatus := 0x11 }).map (·.reply) = some (some 0x11) ∧
    (after .rdEventEnable { State.reset with eventEnable := 0x2C }).map (·.reply) = some (some 0x2C) ∧
    (after .rdIntrTest { State.reset with intrTest := 3 }).map (·.reply) = some (some 0) := by decide

/-- V41-8, V41-9, V41-5 and V42-1: the STATUS word. -/
theorem test_status_words :
    statusWord { State.reset with tx := List.replicate 288 0 } = 0xA1000048#32 ∧
    statusWord { State.reset with rx := List.replicate 256 0 } = 0x92004000#32 ∧
    statusWord { s0 with tx := [0x10, 0x20, 0x30, 0x40] } = 0xA1000001#32 ∧
    statusWord { State.reset with command := 3, engine := .busy 3 } = 0x11000000#32 :=
  ⟨by decide +kernel, by decide +kernel, by decide, by decide⟩

/-- The `qd` instances of 95_test_vectors.md section 2.2. -/
theorem test_qd :
    [0, 1, 3, 4, 5, 8, 9, 256, 288, 1020, 1021, 4000].map (qd 8) =
      [0, 1, 1, 1, 2, 2, 3, 64, 72, 255, 255, 255] := by decide

/-- V41-10 and V41-11. -/
theorem test_rd_rxdata :
    after .rdRxdata { State.reset with rx := [0x11, 0x22, 0x33] } =
      some { State.reset with rx := [], reply := some 0x00332211 } ∧
    after .rdRxdata { State.reset with rx := [0x11, 0x22, 0x33, 0x44, 0x55] } =
      some { State.reset with rx := [0x55], reply := some 0x44332211 } := by decide

/-- V41-7. -/
theorem test_rd_txdata :
    after .rdTxdata { State.reset with tx := [0xAA] } =
      some { State.reset with tx := [0xAA], reply := some 0 } := by decide

/-! Writes. -/

/-- V40-5, V40-8 and V40-9. -/
theorem test_wr_intr_state :
    after (.wrIntrState 2) { State.reset with intrState := 3 } = some { State.reset with intrState := 1 } ∧
    after (.wrIntrState 3) State.reset = some State.reset ∧
    (after (.wrIntrState 2) { State.reset with intrState := 2, intrEnable := 2, eventEnable := 0x10 }).map
      (fun t => (t.intrState, eventLine t)) = some (0, false) := by decide

/-- V40-11 and V40-13: enabling does not evaluate. -/
theorem test_wr_intr_enable :
    after (.wrIntrEnable 0xFFFFFFFF) State.reset = some { State.reset with intrEnable := 0xFFFFFFFF } ∧
    after (.wrIntrEnable 1) { State.reset with intrTest := 1 } = some forced := by decide

/-- R129's example, V40-12. -/
theorem test_wr_intr_test :
    (after (.wrIntrTest 1) { State.reset with intrEnable := 1 }).map
      (fun t => (t.intrState, errorLine t, eventLine t)) = some (1, true, false) ∧
    after (.wrIntrTest 1) State.reset = some { State.reset with intrTest := 1 } := by decide

/-- R131. -/
theorem test_wr_alert_test :
    after (.wrAlertTest 1) State.reset =
      some { State.reset with alertTest := 1, diags := [.unimp .alertTest] } := by decide

/-- R133's example: SW_RST is not a reset (R282). -/
theorem test_wr_control :
    after (.wrControl 0xC0000000) busy3 =
      some { busy3 with control := 0xC0000000, diags := [.unimp .swRst] } ∧
    after (.wrControl 0x20000000) State.reset =
      some { State.reset with control := 0x20000000, diags := [.unimp .outputEn] } := by decide

/-- V40-23 and V41-14. -/
theorem test_read_only_writes :
    after (.wrStatus 0xFFFFFFFF) State.reset = some State.reset ∧
    after (.wrRxdata 0xFFFFFFFF) { State.reset with rx := [0x11] } =
      some { State.reset with rx := [0x11] } := by decide

/-- V40-26 (R137's example). -/
theorem test_wr_error_enable :
    after (.wrErrorEnable 0x10) { State.reset with errorEnable := 0, errorStatus := 0x10, intrEnable := 1 } =
      some { State.reset with errorEnable := 0x10, errorStatus := 0x10, intrEnable := 1, intrState := 1 } := by
  decide

/-- V40-27, V40-29 and V40-30. -/
theorem test_wr_error_status :
    after (.wrErrorStatus 0x01) { State.reset with errorStatus := 0x11 } =
      some { State.reset with errorStatus := 0x10 } ∧
    after (.wrErrorStatus 0x2E) { State.reset with errorStatus := 0x11 } =
      some { State.reset with errorStatus := 0x11 } ∧
    after (.wrErrorStatus 0x10) { State.reset with errorStatus := 0x10, intrState := 1, intrEnable := 1 } =
      some { State.reset with intrState := 1, intrEnable := 1 } := by decide

/-- V40-31 and V40-32. -/
theorem test_wr_event_enable :
    after (.wrEventEnable 0x2C) { State.reset with intrEnable := 2 } =
      some { State.reset with intrEnable := 2, eventEnable := 0x2C, diags := [.unimp .event] } ∧
    after (.wrEventEnable 0x02) { State.reset with intrEnable := 2 } =
      some { State.reset with intrEnable := 2, eventEnable := 2, intrState := 2 } := by decide

/-- V41-2 and V41-5. -/
theorem test_wr_txdata :
    after (.wrTxdata 0x12345678) State.reset = some { State.reset with tx := [0x78] } ∧
    after (.wrTxdata 0x50) { s0 with tx := [0x10, 0x20, 0x30, 0x40] } =
      some { s0 with tx := [0x10, 0x20, 0x30, 0x40] } := by decide

/-- V42-12 with the diagnostics of R181, and V42-2. -/
theorem test_wr_command :
    after (.wrCommand 0xFFFFFFFF) State.reset =
      some { State.reset with
        command := 0xFFFFFFFF, engine := .busy 511, diags := [.unimp .csaat, .unimp .speed] } ∧
    after (.wrCommand 5) { State.reset with command := 3, engine := .busy 3 } =
      some { State.reset with command := 3, engine := .busy 3, errorStatus := 1 } := by decide

/-- V42-3, and V42-7 with P4's filler: underrun, overrun. -/
theorem test_complete :
    after .complete busy3 = some { State.reset with
      command := 3, rx := [0x11, 0x22, 0x33], xlog := [(0xAA, 0x11), (0xBB, 0x22), (0xCC, 0x33)] } ∧
    after .complete { s0 with engine := .busy 3, tx := [0x01, 0x02], answers := [0xA1, 0xA2, 0xA3, 0xA4] } =
      some { s0 with rx := [0xA1, 0xA2], xlog := [(0x01, 0xA1), (0x02, 0xA2), (0x00, 0xA3)], answers := [0xA4] } := by
  decide

/-- V42-5 (surplus bytes dropped) and S4: the completion latches the event. -/
theorem test_complete_drops_and_latches :
    after .complete { State.reset with
        command := 2, engine := .busy 2, tx := [0xAA, 0xBB, 0xCC, 0xDD], answers := [0x10, 0x20],
        intrEnable := 2, eventEnable := 0x10 } =
      some { State.reset with
        command := 2, rx := [0x10, 0x20], xlog := [(0xAA, 0x10), (0xBB, 0x20)],
        intrEnable := 2, eventEnable := 0x10, intrState := 2 } := by decide

/-- V43-7's boundary, V43-5 and V43-8. -/
theorem test_wr_csid :
    after (.wrCsid 1) State.reset = some { State.reset with csid := 1 } ∧
    after (.wrCsid 2) State.reset = some { State.reset with errorStatus := 0x10 } ∧
    after (.wrCsid 0x00010000) State.reset = some { State.reset with errorStatus := 0x10 } ∧
    after (.wrCsid 5) { State.reset with intrEnable := 1 } =
      some { State.reset with intrEnable := 1, errorStatus := 0x10, intrState := 1 } := by decide

/-- V43-3 and V43-2. -/
theorem test_configopts :
    after (.wrConfigopts 0x33333333) { State.reset with csid := 1, configTable := [0x11111111, 0x22222222] } =
      some { State.reset with
        csid := 1, configTable := [0x11111111, 0x33333333], diags := [.unimp .configopts] } ∧
    (after .rdConfigopts { State.reset with configTable := [0x11111111, 0x22222222] }).map (·.reply) =
      some (some 0x11111111) := by decide

/-- V70-1. -/
theorem test_reset :
    after .reset { State.reset with
        intrState := 3, intrEnable := 3, intrTest := 3, control := 0xC0000000, csid := 1,
        configTable := [0, 0x22222222], command := 4, errorEnable := 0, errorStatus := 1, eventEnable := 0x3F,
        tx := [0xBB], rx := [0x55], engine := .busy 4, xlog := [(0xAA, 0x55)] } =
      some { State.reset with xlog := [(0xAA, 0x55)] } := by decide

/-! The evaluator: rows V60-1 to V60-19 as functions of the state, and the trigger list V60-20 to V60-39. -/

/-- INTR_STATE after `evaluate`. READY, TXEMPTY and RXFULL come from the engine and the queues. -/
def latched (ie is it ee es ev : Word) (ready txempty rxfull : Bool) : Word :=
  (evaluate { s0 with
    intrEnable := ie, intrState := is, intrTest := it, errorEnable := ee, errorStatus := es, eventEnable := ev
    engine := if ready then .ready else .busy 0
    tx := if txempty then [] else [0]
    rx := if rxfull then [0, 0] else [] }).intrState

theorem test_evaluator_rows :
    [latched 0 0 3 0x1F 0x11 0x13 true true true, latched 1 0 1 0 0 0 false false false,
     latched 1 0 0 0x1F 0x01 0 false false false, latched 1 0 0 0x1E 0x01 0 false false false,
     latched 1 0 0 0x1F 0x10 0 false false false, latched 1 0 0 0x08 0x08 0 false false false,
     latched 1 0 0 0x06 0x06 0 false false false, latched 1 0 0 0xFFFFFFFF 0x20 0 false false false,
     latched 2 0 0 0 0 0x10 true false false, latched 2 0 0 0 0 0x10 false true true,
     latched 2 0 0 0 0 0x02 false true false, latched 2 0 0 0 0 0x01 false false true,
     latched 2 0 0 0 0 0x2C true true true, latched 3 0 3 0 0 0 false false false,
     latched 3 1 3 0 0 0 false false false, latched 2 0 1 0x1F 0x11 0 false false false,
     latched 1 1 0 0 0 0 false false false, latched 0 2 0 0 0 0 false false false,
     latched 1 2 1 0 0 0 false false false] =
    [0, 1, 1, 0, 1, 1, 0, 0, 2, 0, 2, 2, 0, 3, 3, 0, 1, 2, 3] := by decide

theorem test_trigger_list :
    [Instr.rdIntrState, .rdRxdata, .rdBad 0x40, .wrIntrState 0xFFFFFFFF, .wrIntrEnable 1, .wrIntrTest 1,
      .wrIntrTest 0, .wrAlertTest 1, .wrControl 1, .wrStatus 1, .wrConfigopts 1, .wrCsid 0, .wrCsid 5,
      .wrCommand 0, .wrTxdata 1, .wrRxdata 1, .wrErrorEnable 0x1F, .wrErrorStatus 1, .wrEventEnable 0,
      .wrBad 0x40 1, .reset].map (fun i => (after i forced).map (·.intrState)) =
    [0, 0, 0, 0, 0, 1, 0, 0, 0, 0, 0, 1, 1, 1, 1, 0, 1, 0, 1, 0, 0].map some ∧
    (after .complete { forced with engine := .busy 0 }).map (·.intrState) = some 1 := by decide

/-! Witnesses: for each statement of Obligations.lean with hypotheses, a state and operands that meet all of them
together, one for each clause, at the boundary values where a clause has a range. -/

/-- RD.STATUS writes no register. -/
theorem rdStatus_writes_nothing (r : Reg) : ¬ Writes r .rdStatus := by
  rintro ⟨v, h⟩; cases r <;> simp [Instr.write] at h

/-- 0x38 and the misaligned 0x26 are no register's offsets. -/
theorem bad_offsets : BadOff defaultConfig 0x38 ∧ BadOff defaultConfig 0x26 := by
  refine ⟨?_, ?_⟩ <;> intro r <;> cases r <;> decide

theorem witness_DecodeOfEncodeIsIdentity :
    defaultConfig.wf = true ∧ (Instr.rdBad 0x38).wf defaultConfig = true ∧
    (Instr.wrCsid 0xFFFFFFFF).wf defaultConfig = true := by decide

theorem witness_EachOffsetSelectsExactlyItsOperation : small.wf = true ∧ BadOff small 0x38 :=
  ⟨by decide, bad_offsets.1⟩

theorem witness_DecoderRejectsOnlyWhatIsNoStepCode :
    decode defaultConfig ⟨0x0100000038, 5⟩ = .ok (.wrBad 0x38 5) ∧
    (∃ e, decode defaultConfig ⟨0x0600000000, 5⟩ = .error e) ∧
    (∃ e, decode defaultConfig ⟨0x0800000000, 5⟩ = .error e) := ⟨by rfl, ⟨_, rfl⟩, ⟨_, rfl⟩⟩

theorem witness_StepRunsTheDecodedOperation :
    ((asked 0x0000000014 0 s0).inbox = ⟨0x0000000014, 0⟩ :: [] ∧
      decode (asked 0x0000000014 0 s0).cfg ⟨0x0000000014, 0⟩ = .ok .rdStatus) ∧
    ((asked 0x0600000000 0 s0).inbox = ⟨0x0600000000, 0⟩ :: [] ∧
      decode (asked 0x0600000000 0 s0).cfg ⟨0x0600000000, 0⟩ = .error .kindNeverOccurs) ∧
    (busy3.inbox = [] ∧ busy3.engine = .busy 3) ∧ (s0.inbox = [] ∧ s0.engine = .ready) :=
  ⟨⟨rfl, rfl⟩, ⟨rfl, rfl⟩, ⟨rfl, rfl⟩, ⟨rfl, rfl⟩⟩

theorem witness_PlacedWordIsRunByTheNextStep :
    (State.reset.cfg = defaultConfig ∧ decodeTableWord 40 0x0000000014 = some .rdStatus ∧
      Instr.rdStatus ≠ .complete) ∧
    (busy3.cfg = defaultConfig ∧ decodeTableWord 40 0x0200000000 = some .complete ∧ busy3.engine ≠ .ready) ∧
    (State.reset.cfg = defaultConfig ∧ State.reset.engine = .ready) := by decide

theorem witness_ResetStateMeetsTheInvariant : small.wf = true := by decide

theorem witness_EveryStepKeepsTheInvariant :
    StateInv busy3 ∧ ∃ t, step busy3 = .next t := ⟨inv_busy3, _, rfl⟩

theorem witness_EnabledOperationsAlwaysComplete :
    StateInv busy3 ∧ Enabled .complete busy3 ∧ Enabled .rdConfigopts busy3 ∧
    StateInv (asked 0x0000000018 0 s0) ∧ (asked 0x0000000018 0 s0).inbox = ⟨0x0000000018, 0⟩ :: [] ∧
    decode (asked 0x0000000018 0 s0).cfg ⟨0x0000000018, 0⟩ = .ok .rdConfigopts ∧
    Enabled .rdConfigopts (asked 0x0000000018 0 s0) :=
  ⟨inv_busy3, fun _ => ⟨3, rfl⟩, fun h => (by cases h), { inv_s0 with }, rfl, rfl, fun h => (by cases h)⟩

theorem witness_EveryBusReadReturnsAWord :
    StateInv (asked (readCode 0x18) 0 s0) ∧ (asked (readCode 0x18) 0 s0).inbox = ⟨readCode 0x18, 0⟩ :: [] :=
  ⟨{ inv_s0 with }, rfl⟩

theorem witness_EveryBusWriteCompletesWithoutReply :
    StateInv (asked (writeCode 0x38) 7 s0) ∧ (asked (writeCode 0x38) 7 s0).inbox = ⟨writeCode 0x38, 7⟩ :: [] :=
  ⟨{ inv_s0 with }, rfl⟩

theorem witness_ConfigurationNeverChanges :
    (∃ t, step busy3 = .next t) ∧ (∃ t, step (asked 0x0400000000 0 busy3) = .next t) := ⟨⟨_, rfl⟩, ⟨_, rfl⟩⟩

theorem witness_RegisterReadsReturnTheStoredWord :
    s0.cfg.wf = true ∧ StateInv s0 ∧ s0.cfg.layout = defaultLayout ∧
    (StateInv { s0 with errorStatus := 0x11 } ∧ bitSet { s0 with errorStatus := 0x11 }.errorStatus 0 = true ∧
      bitSet { s0 with errorStatus := 0x11 }.errorStatus 4 = true) ∧ ∃ t, exec .reset s0 = .next t :=
  ⟨by decide, inv_s0, rfl, ⟨{ inv_s0 with errorStatus := by rfl }, by decide, by decide⟩, _, rfl⟩

theorem witness_CommandReadReturnsTheLastAcceptedWord :
    (s0.engine = .ready ∧ ∃ t, exec (.wrCommand 3) s0 = .next t) ∧
    (busy3.engine ≠ .ready ∧ ∃ t, exec (.wrCommand 5) busy3 = .next t) :=
  ⟨⟨rfl, _, rfl⟩, by decide, _, rfl⟩

theorem witness_StatusReadReturnsTheDerivedWord :
    s0.cfg.wf = true ∧ ∃ t, exec (.wrTxdata 0xAA) State.reset = .next t := ⟨by decide, _, rfl⟩

/-- Bit 21 belongs to no live STATUS field. -/
theorem witness_StatusWordMirrorsQueuesAndEngine :
    s0.cfg.wf = true ∧ s0.cfg.layout = defaultLayout ∧
    ((21 < s0.cfg.layout.status.txqd.lsb ∨
        s0.cfg.layout.status.txqd.lsb + s0.cfg.layout.status.txqd.width ≤ 21) ∧
      (21 < s0.cfg.layout.status.rxqd.lsb ∨
        s0.cfg.layout.status.rxqd.lsb + s0.cfg.layout.status.rxqd.width ≤ 21) ∧
      21 ≠ s0.cfg.layout.status.rxempty ∧ 21 ≠ s0.cfg.layout.status.rxfull ∧
      21 ≠ s0.cfg.layout.status.txempty ∧ 21 ≠ s0.cfg.layout.status.txfull ∧
      21 ≠ s0.cfg.layout.status.ready) := by decide

theorem witness_EmptyAndFullFlagsAreExact :
    ({ small with txCap := 1 } : Config).wf = true ∧
    (State.resetOf { small with txCap := 1 }).tx.length ≤ 1 ∧
    { State.resetOf { small with txCap := 1 } with tx := [7] }.tx.length ≤ 1 := by decide

theorem witness_OnlyTheReceiveReadHasASideEffect :
    (isRead .rdStatus = true ∧ Instr.rdStatus ≠ .rdRxdata ∧
      ∃ t u, exec .rdStatus s0 = .next t ∧ exec .rdStatus t = .next u) ∧
    (isRead (.rdBad 0x38) = true ∧
      ∃ t u, exec (.rdBad 0x38) s0 = .next t ∧ exec (.rdBad 0x38) t = .next u) ∧
    ∃ t, exec .rdRxdata { s0 with rx := [1, 2] } = .next t :=
  ⟨⟨rfl, by decide, _, _, rfl, rfl⟩, ⟨rfl, _, _, rfl, rfl⟩, _, rfl⟩

theorem witness_IntrStateWriteClearsOnes :
    s0.cfg.wf = true ∧ bitSet 3 s0.cfg.layout.intrState.error = true ∧
    bitSet 3 s0.cfg.layout.intrState.spiEvent = true := by decide

theorem witness_ErrorStatusWriteClearsOnes : s0.cfg.wf = true := by decide

theorem witness_ClearingIsBitwiseIdempotentAndCommutative :
    (∃ t u, exec (.wrIntrState 1) { s0 with intrState := 3 } = .next t ∧ exec (.wrIntrState 2) t = .next u) ∧
    (∃ u e, exec (.wrErrorStatus 1) { s0 with errorStatus := 0x11 } = .next u ∧
      exec (.wrErrorStatus 0x10) u = .next e) := ⟨⟨_, _, rfl, rfl⟩, ⟨_, _, rfl, rfl⟩⟩

theorem witness_IntrEnableWriteStoresAndGatesTheLines : s0.cfg.wf = true := by decide

theorem witness_AlertTestWriteLeavesOnlyADiagnostic :
    s0.cfg.wf = true ∧ ∃ t a b, exec (.wrAlertTest 1) s0 = .next t ∧ isRead .rdRxdata = true ∧
      exec .rdRxdata s0 = .next a ∧ exec .rdRxdata t = .next b := ⟨by decide, _, _, _, rfl, rfl, rfl, rfl⟩

theorem witness_ControlWriteOnlyStores : s0.cfg.wf = true := by decide

theorem witness_ReadOnlyRegistersIgnoreWrites : s0.cfg.wf = true := by decide

theorem witness_BadOffsetsAreNonFatalAndInert :
    State.reset.cfg.wf = true ∧ (0x26#32).toNat % 4 ≠ 0 ∧ BadOff State.reset.cfg 0x26 ∧
    BadOff State.reset.cfg 0x38 := ⟨by decide, by decide, bad_offsets.2, bad_offsets.1⟩

theorem witness_CauseEnableWritesStoreThenEvaluate : s0.cfg.wf = true := by decide

theorem witness_IntrTestWriteForcesUntilRewritten :
    s0.cfg.wf = true ∧ (∃ t, exec .rdStatus forced = .next t) ∧ ¬ Writes .intrTest .rdStatus ∧
    Instr.rdStatus ≠ .reset := ⟨by decide, ⟨_, rfl⟩, rdStatus_writes_nothing _, by decide⟩

/-- Full at the capacity 4, not full at 3. -/
theorem witness_TransmitWritePushesTheLowByte :
    s0.cfg.wf = true ∧ { s0 with tx := [1, 2, 3, 4] }.tx.length = small.txCap ∧
    { s0 with tx := [1, 2, 3] }.tx.length ≠ small.txCap := by decide

theorem witness_QueuesAreFirstInFirstOut :
    ([1, 2] : List Byte).length = 2 ∧ ([1] : List Byte).length ≠ 2 ∧ ([1] : List Byte).length ≤ 2 := by decide

theorem witness_QueueWritersAndBounds :
    ((∃ t, exec .rdStatus s0 = .next t) ∧ ¬ Writes .txdata .rdStatus ∧ Instr.rdStatus ≠ .complete ∧
      Instr.rdStatus ≠ .reset ∧ Instr.rdStatus ≠ .rdRxdata) ∧
    ((∃ t, exec (.wrTxdata 7) s0 = .next t) ∧ Writes .txdata (.wrTxdata 7)) ∧
    (∃ t, exec .complete busy3 = .next t) ∧ (∃ t, exec .rdRxdata s0 = .next t) ∧
    (∃ t, exec .reset s0 = .next t) ∧
    ({ s0 with tx := [1, 2, 3, 4] }.tx.length ≤ small.txCap ∧ { s0 with rx := [1, 2] }.rx.length ≤ small.rxCap) :=
  ⟨⟨⟨_, rfl⟩, rdStatus_writes_nothing _, by decide, by decide, by decide⟩, ⟨⟨_, rfl⟩, 7, rfl⟩, ⟨_, rfl⟩,
    ⟨_, rfl⟩, ⟨_, rfl⟩, by decide, by decide⟩

theorem witness_CommandWriteIsAcceptedOrRejected :
    s0.cfg.wf = true ∧ s0.engine = .ready ∧ busy3.engine = .busy 3 := by decide

/-- A segment with room, one of length 0, and one that finds the receive FIFO full. -/
theorem witness_CompletionExchangesExactlyTheSegment :
    (busy3.engine = .busy 3 ∧ busy3.rx.length ≤ busy3.cfg.rxCap) ∧
    ({ s0 with engine := .busy 0 }.engine = .busy 0 ∧ s0.rx.length ≤ s0.cfg.rxCap) ∧
    ({ s0 with engine := .busy 5, rx := [1, 2] }.engine = .busy 5 ∧
      { s0 with engine := .busy 5, rx := [1, 2] }.rx.length ≤ small.rxCap) := by decide

/-- Answers for the whole segment, and for its first exchange only. -/
theorem witness_TransportAnswersInCallOrder :
    (busy3.engine = .busy 3 ∧ busy3.answers[2]? = some 0x33) ∧
    ({ busy3 with answers := [0x11] }.engine = .busy 3 ∧ { busy3 with answers := [0x11] }.answers[1]? = none) := by
  decide

/-- LEN is 0 in 0 and in 0x200 (LEN_WIDTH 9). -/
theorem witness_ZeroLengthCommandOnlyDrainsTheQueue :
    (s0.engine = .ready ∧ (0x200#32).toNat % 2 ^ s0.cfg.layout.command.lenWidth = 0 ∧
      ∃ t, exec (.wrCommand 0x200) s0 = .next t) ∧ { s0 with engine := .busy 0 }.engine = .busy 0 :=
  ⟨⟨rfl, by decide, _, rfl⟩, rfl⟩

theorem witness_EngineFollowsItsTransitionTable :
    (∃ t, exec (.wrCommand 3) s0 = .next t) ∧ (∃ t, exec (.wrCommand 5) busy3 = .next t) ∧
    (∃ t, exec .complete busy3 = .next t) ∧ (∃ t, exec .reset busy3 = .next t) ∧
    (∃ t, exec (.wrTxdata 7) busy3 = .next t) := ⟨⟨_, rfl⟩, ⟨_, rfl⟩, ⟨_, rfl⟩, ⟨_, rfl⟩, ⟨_, rfl⟩⟩

theorem witness_EngineOperationsLeaveOtherRegistersAlone :
    (Writes .command (.wrCommand 3) ∧ ∃ t, exec (.wrCommand 3) s0 = .next t) ∧
    ∃ t, exec .complete busy3 = .next t := ⟨⟨⟨3, rfl⟩, _, rfl⟩, _, rfl⟩

/-- V42-9: 0x00003E03 and 3 have the length 3. -/
theorem witness_OnlyTheLengthOfACommandMatters :
    (0x00003E03#32).toNat % 2 ^ s0.cfg.layout.command.lenWidth =
      (3#32).toNat % 2 ^ s0.cfg.layout.command.lenWidth ∧
    ∃ t u, exec (.wrCommand 0x00003E03) s0 = .next t ∧ exec (.wrCommand 3) s0 = .next u :=
  ⟨by decide, _, _, rfl, rfl⟩

/-- NUM_CS - 1 and NUM_CS. -/
theorem witness_CsidWriteIsRangeChecked :
    s0.cfg.wf = true ∧ (1#32).toNat < s0.cfg.numCs ∧ s0.cfg.numCs ≤ (2#32).toNat := by decide

theorem witness_ConfigoptsReachesTheSelectedEntry :
    StateInv { s0 with csid := 1 } ∧ (0 : Nat) ≠ { s0 with csid := 1 }.csid.toNat :=
  ⟨{ inv_s0 with csid := by decide }, by decide⟩

theorem witness_ConfigoptsWithoutEntryFaults :
    { s0 with csid := 2 }.configTable.length ≤ { s0 with csid := 2 }.csid.toNat := by decide

theorem witness_TableEntriesAreIndependent :
    (Instr.wrConfigopts 5 ≠ .reset ∧ 1 ≠ s0.csid.toNat ∧ ∃ t, exec (.wrConfigopts 5) s0 = .next t) ∧
    (s0.cfg.numCs ≤ (2#32).toNat ∧ ∃ t, exec (.wrCsid 2) s0 = .next t) :=
  ⟨⟨by decide, by decide, _, rfl⟩, by decide, _, rfl⟩

theorem witness_ErrorBitsStayUntilCleared :
    (∃ t, exec .rdStatus { s0 with errorStatus := 1 } = .next t) ∧ ¬ Writes .errorStatus .rdStatus ∧
    Instr.rdStatus ≠ .reset ∧ bitSet { s0 with errorStatus := 1 }.errorStatus 0 = true :=
  ⟨⟨_, rfl⟩, rdStatus_writes_nothing _, by decide, by decide⟩

theorem witness_OnlyBusyAndInvalidCsidSetErrorBits :
    (∃ t, exec (.wrCommand 5) busy3 = .next t ∧ bitSet busy3.errorStatus 0 = false ∧
      bitSet t.errorStatus 0 = true) ∧
    (∃ t, exec (.wrCsid 2) s0 = .next t ∧ bitSet s0.errorStatus 4 = false ∧ bitSet t.errorStatus 4 = true) :=
  ⟨⟨_, rfl, by decide, by decide⟩, ⟨_, rfl, by decide, by decide⟩⟩

theorem witness_EvaluatorLatchesEnabledCauses :
    forced.cfg.wf = true ∧ forced.cfg.layout.intrState.error < 32 ∧ forced.cfg.layout.intrState.spiEvent < 32 ∧
    (31 < 32 ∧ 31 ≠ forced.cfg.layout.intrState.error ∧ 31 ≠ forced.cfg.layout.intrState.spiEvent) := by decide

/-- Two states that differ in CONTROL, ERROR_ENABLE.OVERFLOW, TX and the command word, and agree on every
listed input. -/
def otherInputs : State :=
  { State.reset with tx := [1, 2], errorEnable := 0x1D, control := 0xFF, command := 9, errorStatus := 0x02 }

theorem witness_ListedInputsAreTheOnlyCauses :
    (let s : State := { State.reset with tx := [1], errorEnable := 0x1F }
     s.cfg = otherInputs.cfg ∧ s.cfg.wf = true ∧ s.intrState = otherInputs.intrState ∧
      s.intrEnable = otherInputs.intrEnable ∧
      bitSet s.intrTest s.cfg.layout.intrTest.error = bitSet otherInputs.intrTest s.cfg.layout.intrTest.error ∧
      bitSet s.intrTest s.cfg.layout.intrTest.spiEvent = bitSet otherInputs.intrTest s.cfg.layout.intrTest.spiEvent ∧
      (∀ k ∈ [s.cfg.layout.errorEnable.cmdbusy, s.cfg.layout.errorEnable.cmdinval,
        s.cfg.layout.errorEnable.csidinval], bitSet s.errorEnable k = bitSet otherInputs.errorEnable k) ∧
      (∀ k ∈ [s.cfg.layout.errorStatus.cmdbusy, s.cfg.layout.errorStatus.cmdinval,
        s.cfg.layout.errorStatus.csidinval], bitSet s.errorStatus k = bitSet otherInputs.errorStatus k) ∧
      (∀ k ∈ [s.cfg.layout.eventEnable.ready, s.cfg.layout.eventEnable.txempty,
        s.cfg.layout.eventEnable.rxfull], bitSet s.eventEnable k = bitSet otherInputs.eventEnable k) ∧
      (∀ k ∈ [s.cfg.layout.status.ready, s.cfg.layout.status.txempty,
        s.cfg.layout.status.rxfull], bitSet (statusWord s) k = bitSet (statusWord otherInputs) k)) ∧
    StateInv s0 := ⟨by decide, inv_s0⟩

theorem witness_OnlyListedOperationsEvaluate :
    (∃ t, exec (.wrCsid 0) forced = .next t ∧ evaluates (.wrCsid 0) = true ∧ forced.cfg.wf = true ∧
      bitSet t.intrEnable t.cfg.layout.intrEnable.error = true ∧ errCause t = true) ∧
    (∃ t, exec (.wrEventEnable 0x10) { s0 with intrEnable := 2 } = .next t ∧
      evaluates (.wrEventEnable 0x10) = true ∧
      bitSet t.intrEnable t.cfg.layout.intrEnable.spiEvent = true ∧ evtCause t = true) ∧
    (∃ t, exec .rdStatus { s0 with intrState := 1 } = .next t ∧ evaluates .rdStatus = false ∧
      bitSet t.intrState 0 = true) :=
  ⟨⟨_, rfl, by decide⟩, ⟨_, rfl, by decide⟩, ⟨_, rfl, by decide⟩⟩

theorem witness_IntrStateIsClearedOnlyByAcknowledgeOrReset :
    (∃ t, exec (.wrIntrState 1) { s0 with intrState := 3 } = .next t ∧ Instr.wrIntrState 1 ≠ .reset ∧
      bitSet { s0 with intrState := 3 }.intrState 0 = true ∧ bitSet t.intrState 0 = false) ∧
    (∃ t, exec .reset { s0 with intrState := 3 } = .next t) := ⟨⟨_, rfl, by decide⟩, _, rfl⟩

theorem witness_FiringMakesTheLineActive :
    (∃ t, forced.cfg.wf = true ∧ exec (.wrCsid 0) forced = .next t ∧
      bitSet forced.intrState forced.cfg.layout.intrState.error = false ∧
      bitSet t.intrState forced.cfg.layout.intrState.error = true) ∧
    (∃ t, exec (.wrEventEnable 0x10) { s0 with intrEnable := 2 } = .next t ∧
      bitSet s0.intrState s0.cfg.layout.intrState.spiEvent = false ∧
      bitSet t.intrState s0.cfg.layout.intrState.spiEvent = true) ∧ ∃ t, exec .reset forced = .next t :=
  ⟨⟨_, by decide, rfl, by decide⟩, ⟨_, rfl, by decide⟩, _, rfl⟩

theorem witness_ReadsAfterResetReturnTheResetValues :
    busy3.cfg.wf = true ∧ busy3.cfg.layout = defaultLayout ∧ (1#32).toNat < busy3.cfg.numCs ∧
    ∃ t u a b, exec .reset busy3 = .next t ∧ exec (Instr.read .status) t = .next u ∧
      exec (.wrCsid 1) t = .next a ∧ exec .rdConfigopts a = .next b :=
  ⟨by decide, by decide, by decide, _, _, _, _, rfl, rfl, rfl, rfl⟩

theorem witness_ResetCancelsThePendingCompletion : ∃ t, exec .reset busy3 = .next t := ⟨_, rfl⟩

theorem witness_RegistersChangeOnlyByTheirWriters :
    (∃ t, exec .rdStatus busy3 = .next t) ∧ Instr.rdStatus ≠ .reset ∧ evaluates .rdStatus = false ∧
    (∀ r, ¬ Writes r .rdStatus) ∧ 2 ≠ busy3.cfg.layout.intrState.error ∧
    2 ≠ busy3.cfg.layout.intrState.spiEvent :=
  ⟨⟨_, rfl⟩, by decide, by decide, rdStatus_writes_nothing, by decide, by decide⟩

theorem witness_LogsOnlyGrow :
    (∃ t, exec .rdStatus busy3 = .next t) ∧ Instr.rdStatus ≠ .complete ∧ (∀ off, Instr.rdStatus ≠ .rdBad off) ∧
    (∀ off v, Instr.rdStatus ≠ .wrBad off v) ∧ (∀ r, ¬ Writes r .rdStatus) :=
  ⟨⟨_, rfl⟩, by decide, by simp, by simp, rdStatus_writes_nothing⟩

theorem witness_ControlAndAlertTestInfluenceNothing :
    Instr.rdStatus ≠ .rdControl ∧ (∀ r, ¬ Writes r .rdStatus) ∧ Instr.rdStatus ≠ .reset :=
  ⟨by decide, rdStatus_writes_nothing, by decide⟩

end Sys2Proof.Tests
end

-- ==== Proofs of the family 10_state: the queues (O34) ====
section
/-! PROOF. Who writes the queues, how, and within which bounds (10_state.md R42). -/

namespace Sys2Proof.Machine

open Sys2Proof.Claims

/-! `push` (R160) and the loop of RD.RXDATA (R164). -/

theorem push_eq_or_append (q : List Byte) (cap : Nat) (b : Byte) :
    (push q cap b).2 = q ∨ (push q cap b).2 = q ++ [b] := by
  rw [push_snd]
  split
  · exact .inl rfl
  · exact .inr rfl

theorem prefix_push (q : List Byte) (cap : Nat) (b : Byte) : q <+: (push q cap b).2 := by
  rcases push_eq_or_append q cap b with h | h
  · rw [h]
  · rw [h]; exact q.prefix_append [b]

theorem push_length_le {q : List Byte} {cap : Nat} (b : Byte) (h : q.length ≤ cap) :
    (push q cap b).2.length ≤ cap := by
  rw [push_snd]
  split
  · exact h
  · rw [List.length_append, List.length_singleton]; omega

theorem popLanes_suffix (k i : Nat) (w : Word) (q : List Byte) : (popLanes k i w q).2 <:+ q := by
  induction k generalizing i w q with
  | zero => exact q.suffix_refl
  | succ k ih =>
    cases q with
    | nil => exact List.suffix_refl []
    | cons b rest => exact (ih _ _ rest).trans (rest.suffix_cons b)

/-! The receive FIFO over the loop of COMPLETE (R183). -/

theorem exchangeLoop_rx_prefix (n : Nat) (s : State) : s.rx <+: (exchangeLoop n s).rx := by
  induction n generalizing s with
  | zero => exact s.rx.prefix_refl
  | succ n ih => exact (prefix_push s.rx s.cfg.rxCap _).trans (ih (exchangeOne s))

theorem exchangeLoop_rx_length_le (n : Nat) {s : State} (h : s.rx.length ≤ s.cfg.rxCap) :
    (exchangeLoop n s).rx.length ≤ s.cfg.rxCap := by
  induction n generalizing s with
  | zero => exact h
  | succ n ih => exact ih (s := exchangeOne s) (push_length_le _ h)

/-! What an operation's effect does to the configuration and the queues. -/

@[simp] theorem effect_cfg (i : Instr) (s : State) : (effect i s).cfg = s.cfg := by
  cases i
  case wrCsid v => simp only [effect, evaluate_cfg]; split <;> rfl
  case wrCommand v => simp only [effect]; split <;> simp
  case complete => simp only [effect]; split <;> simp
  case wrControl v | wrEventEnable v => simp [effect]
  all_goals rfl

theorem effect_tx_of_not_writer {i : Instr} (s : State) (hw : ¬ Writes .txdata i) (hc : i ≠ .complete)
    (hr : i ≠ .reset) : (effect i s).tx = s.tx := by
  cases i
  case wrTxdata v => exact absurd ⟨v, rfl⟩ hw
  case complete => exact absurd rfl hc
  case reset => exact absurd rfl hr
  case wrCsid v => simp only [effect, evaluate_tx]; split <;> rfl
  case wrCommand v => simp only [effect]; split <;> simp
  case wrControl v | wrEventEnable v => simp [effect]
  all_goals rfl

theorem effect_rx_of_not_writer {i : Instr} (s : State) (hd : i ≠ .rdRxdata) (hc : i ≠ .complete)
    (hr : i ≠ .reset) : (effect i s).rx = s.rx := by
  cases i
  case rdRxdata => exact absurd rfl hd
  case complete => exact absurd rfl hc
  case reset => exact absurd rfl hr
  case wrCsid v => simp only [effect, evaluate_rx]; split <;> rfl
  case wrCommand v => simp only [effect]; split <;> simp
  case wrControl v | wrEventEnable v => simp [effect]
  all_goals rfl

@[simp] theorem effect_reset_tx (s : State) : (effect .reset s).tx = [] := rfl

@[simp] theorem effect_reset_rx (s : State) : (effect .reset s).rx = [] := rfl

theorem effect_complete_tx {s : State} (h : ¬ Stops .complete s) : (effect .complete s).tx = [] := by
  cases he : s.engine with
  | ready => exact absurd he h
  | busy n => simp [effect, he]

theorem effect_complete_rx {s : State} (h : ¬ Stops .complete s) :
    ∃ n, (effect .complete s).rx = (exchangeLoop n s).rx := by
  cases he : s.engine with
  | ready => exact absurd he h
  | busy n => exact ⟨n, by simp [effect, he]⟩

/-! The capacities bound the queues (R42). -/

theorem effect_tx_length_le {i : Instr} {s : State} (hs : ¬ Stops i s) (h : s.tx.length ≤ s.cfg.txCap) :
    (effect i s).tx.length ≤ s.cfg.txCap := by
  by_cases hw : Writes .txdata i
  · obtain ⟨v, rfl⟩ := hw
    exact push_length_le (lowByte v) h
  by_cases hc : i = .complete
  · subst hc; simp [effect_complete_tx hs]
  by_cases hr : i = .reset
  · subst hr; simp
  · rwa [effect_tx_of_not_writer s hw hc hr]

theorem effect_rx_length_le {i : Instr} {s : State} (hs : ¬ Stops i s) (h : s.rx.length ≤ s.cfg.rxCap) :
    (effect i s).rx.length ≤ s.cfg.rxCap := by
  by_cases hd : i = .rdRxdata
  · subst hd; exact (popLanes_suffix _ _ _ _).length_le.trans h
  by_cases hc : i = .complete
  · subst hc
    obtain ⟨n, hn⟩ := effect_complete_rx hs
    rw [hn]; exact exchangeLoop_rx_length_le n h
  by_cases hr : i = .reset
  · subst hr; simp
  · rwa [effect_rx_of_not_writer s hd hc hr]

/-- Settles O34: by the inversion lemma of `exec`, from what `effect` does to each queue. -/
theorem queueWritersAndBounds : Obligations.QueueWritersAndBounds := by
  refine ⟨fun i s t h => ?_, rfl, rfl⟩
  obtain ⟨hs, rfl⟩ := exec_next h
  refine ⟨effect_tx_of_not_writer s, effect_rx_of_not_writer s, ?wrTxdata, ?complete, ?rdRxdata, ?reset,
    ?txBound, ?rxBound⟩
  case wrTxdata =>
    rintro ⟨v, rfl⟩
    exact (push_eq_or_append _ _ _).imp_right fun hb => ⟨lowByte v, hb⟩
  case complete =>
    rintro rfl
    obtain ⟨n, hn⟩ := effect_complete_rx hs
    exact ⟨effect_complete_tx hs, hn ▸ exchangeLoop_rx_prefix n s⟩
  case rdRxdata => rintro rfl; exact popLanes_suffix _ _ _ _
  case reset => rintro rfl; exact ⟨effect_reset_tx s, effect_reset_rx s⟩
  case txBound => intro hb; simpa using effect_tx_length_le hs hb
  case rxBound => intro hb; simpa using effect_rx_length_le hs hb

end Sys2Proof.Machine
end

-- ==== Proofs of the family 30_encoding: the decoder table (O2) and the bad offsets (O28) ====
section
/-! PROOF. What each code of R101 and R102 decodes to, and that a bad offset is inert (30_encoding.md R106). -/

namespace Sys2Proof

open Sys2Proof.Claims Sys2Proof.Machine

/-! The codes as the statements write them, decoded. -/

theorem decode_readCode (c : Config) (off v : Word) :
    decode c ⟨readCode off, v⟩ = .ok (decodeBus c false off v) := by
  rw [readCode, ← stepCode_read, decode_bus]

theorem decode_writeCode (c : Config) (off v : Word) :
    decode c ⟨writeCode off, v⟩ = .ok (decodeBus c true off v) := by
  rw [writeCode, ← stepCode_write, decode_bus]

/-- The 33 bits below `kind` are a `we` and an `off`, whatever they are. -/
theorem kindCode_eq_stepCode (kind : BitVec 2) (x : BitVec 33) :
    kindCode kind x = stepCode kind x.msb (x.setWidth 32) :=
  congrArg (kindCode kind) (BitVec.cons_msb_setWidth x).symm

theorem kindCode_fields (kind : BitVec 2) (x : BitVec 33) :
    (kindCode kind x).extractLsb' 35 5 = 0 ∧ (kindCode kind x).extractLsb' 33 2 = kind := by
  rw [kindCode_eq_stepCode]
  exact Laws.StepCode.stepCode_fields kind _ _

theorem decode_kindCode_complete (c : Config) (x : BitVec 33) (v : Word) :
    decode c ⟨kindCode 1 x, v⟩ = .ok .complete := by
  obtain ⟨habove, hkind⟩ := kindCode_fields 1 x
  simp only [decode, Request.kind, habove, hkind]
  rfl

theorem decode_kindCode_reset (c : Config) (x : BitVec 33) (v : Word) :
    decode c ⟨kindCode 2 x, v⟩ = .ok .reset := by
  obtain ⟨habove, hkind⟩ := kindCode_fields 2 x
  simp only [decode, Request.kind, habove, hkind]
  rfl

/-! The rows of the decoder table (R102): a register's offset, and any other offset. -/

theorem decode_at_offset {c : Config} (h : c.wf = true) {r : Reg} {off : Word} (hr : c.offset r = off)
    (v : Word) :
    decode c ⟨readCode off, v⟩ = .ok (.read r) ∧ decode c ⟨writeCode off, v⟩ = .ok (.write r v) := by
  simp [decode_readCode, decode_writeCode, decodeBus, ← hr, regAt_offset c h r]

theorem decode_at_badOff {c : Config} {off : Word} (h : BadOff c off) (v : Word) :
    decode c ⟨readCode off, v⟩ = .ok (.rdBad off) ∧
    decode c ⟨writeCode off, v⟩ = .ok (.wrBad off v) := by
  simp [decode_readCode, decode_writeCode, decodeBus, regAt_eq_none h]

/-- Settles O2: the table of R102 names each register's offset, and its row is `decode_at_offset` there. -/
theorem eachOffsetSelectsExactlyItsOperation : Obligations.EachOffsetSelectsExactlyItsOperation := by
  intro c v h
  have row (r : Reg) (off : Word) (hr : c.offset r = off) := decode_at_offset h hr v
  exact ⟨row .intrState 0x00 rfl, row .intrEnable 0x04 rfl, row .intrTest 0x08 rfl, row .alertTest 0x0C rfl,
    row .control 0x10 rfl, row .status 0x14 rfl, row .configopts 0x18 rfl, row .csid 0x1C rfl,
    row .command 0x20 rfl, row .txdata c.offTxdata rfl, row .rxdata c.offRxdata rfl,
    row .errorEnable 0x2C rfl, row .errorStatus 0x30 rfl, row .eventEnable c.offEventEnable rfl,
    fun _ hoff => decode_at_badOff hoff v,
    fun x => ⟨decode_kindCode_complete c x v, decode_kindCode_reset c x v⟩⟩

/-! Misaligned offsets are bad offsets (R71, R106). -/

/-- Every register stands at a multiple of 4. -/
theorem offset_aligned {c : Config} (h : c.wf = true) (r : Reg) : (c.offset r).toNat % 4 = 0 := by
  simp only [Config.wf, Bool.and_eq_true] at h
  obtain ⟨⟨⟨-, hdata⟩, hevent⟩, -⟩ := h
  simp only [Config.dataOffsetsOk, Bool.or_eq_true, Bool.and_eq_true, beq_iff_eq] at hdata
  simp only [Config.eventOffsetOk, Bool.and_eq_true, decide_eq_true_eq] at hevent
  obtain ⟨halign, -⟩ := hevent
  cases r
  case txdata => rcases hdata with ⟨htx, -⟩ | ⟨htx, -⟩ <;> simp [Config.offset, htx]
  case rxdata => rcases hdata with ⟨-, hrx⟩ | ⟨-, hrx⟩ <;> simp [Config.offset, hrx]
  case eventEnable => exact halign
  all_goals simp [Config.offset]

theorem badOff_of_misaligned {c : Config} (h : c.wf = true) {off : Word} (hoff : off.toNat % 4 ≠ 0) :
    BadOff c off := by
  rintro r rfl
  exact hoff (offset_aligned h r)

/-- Settles O28: a bad-offset operation never stops, so `exec` answers its `effect`, the diagnostic alone. -/
theorem badOffsetsAreNonFatalAndInert : Obligations.BadOffsetsAreNonFatalAndInert := by
  intro s off v
  exact ⟨fun h => badOff_of_misaligned h, fun hoff => decode_at_badOff hoff v,
    ⟨0, exec_of_not_stops (i := .rdBad off) id⟩, exec_of_not_stops (i := .wrBad off v) id⟩

end Sys2Proof
end

-- ==== Proofs of the family 40_register_access: reads (O10, O13) and writes (O25, O27, O30) ====
section
/-! PROOF. Which operations stop under the invariant, what every bus read returns, and the plain reads and writes
of the register bank (40_register_access.md). -/

namespace Sys2Proof.Machine

open Sys2Proof.Claims

/-! The invariant leaves no enabled operation without a next state (R287). -/

theorem not_stops_of_enabled {i : Instr} {s : State} (hinv : StateInv s) (hi : Enabled i s) : ¬ Stops i s := by
  have hentry : ¬ s.configTable.length ≤ s.csid.toNat := by
    rw [hinv.table]; exact Nat.not_le.mpr hinv.csid
  cases i
  case complete =>
    obtain ⟨n, hbusy⟩ := hi rfl
    simp [Stops, hbusy]
  case rdConfigopts | wrConfigopts => exact hentry
  all_goals exact id

/-- The request at the head of the inbox is the one that runs (R84). -/
theorem step_of_inbox {s : State} {r : Request} {rest : List Request} {i : Instr}
    (hbox : s.inbox = r :: rest) (hdec : decode s.cfg r = .ok i) :
    step s = exec i { s with inbox := rest } := by
  simp [step, fetch, hbox, hdec]

/-! The fifteen reads (R120). -/

theorem enabled_of_isRead {i : Instr} (s : State) (h : isRead i = true) : Enabled i s := by
  rintro rfl; cases h

theorem isRead_read (r : Reg) : isRead (.read r) = true := by
  cases r <;> rfl

/-- A bus access with `we` 0 is a read, of a register or of a bad offset. -/
theorem isRead_decodeBus (c : Config) (off v : Word) : isRead (decodeBus c false off v) = true := by
  unfold decodeBus
  cases regAt c off with
  | some r => exact isRead_read r
  | none => rfl

theorem replyOf_of_isRead {i : Instr} {s : State} (hs : ¬ Stops i s) (h : isRead i = true) :
    ∃ w, replyOf i s = some w := by
  cases i <;> cases h
  case rdConfigopts => exact ⟨_, List.getElem?_eq_getElem (Nat.lt_of_not_le hs)⟩
  all_goals exact ⟨_, rfl⟩

/-- Settles O10: a read never stops under the invariant, and what does not stop answers its reply. -/
theorem everyBusReadReturnsAWord : Obligations.EveryBusReadReturnsAWord := by
  intro s off v rest hinv hbox
  have hdec := decode_readCode s.cfg off v
  have hread := isRead_decodeBus s.cfg off v
  have hinv' : StateInv { s with inbox := rest } := { hinv with }
  have hs := not_stops_of_enabled hinv' (enabled_of_isRead _ hread)
  have hexec := exec_of_not_stops hs
  obtain ⟨w, hw⟩ := replyOf_of_isRead hs hread
  exact ⟨_, _, w, hdec, hread, hexec, (step_of_inbox hbox hdec).trans hexec, hw⟩

/-! The bits that the invariant leaves in INTR_STATE and ERROR_STATUS (R23 (e), (f)). -/

theorem eq_or_eq_of_bitSet_of_masked {a : Word} {i j k : Nat}
    (hmask : a &&& ~~~(bitMask i ||| bitMask j) = 0) (hbit : bitSet a k = true) : k = i ∨ k = j := by
  by_contra! hne
  obtain ⟨hi, hj⟩ := hne
  have hclear : bitSet (clearOnes a (bitMask i ||| bitMask j)) k = false := by
    rw [clearOnes, hmask]; exact bitSet_zero k
  simp [bitSet_bitMask, hbit, hi.symm, hj.symm] at hclear

theorem intrState_lt_four {s : State} (hinv : StateInv s) (hlay : s.cfg.layout = defaultLayout) :
    s.intrState.toNat < 4 := by
  refine Nat.lt_pow_two_of_testBit (n := 2) _ fun k hk => Bool.eq_false_of_not_eq_true fun hbit => ?_
  have hpos := eq_or_eq_of_bitSet_of_masked hinv.intrState hbit
  simp only [hlay, defaultLayout] at hpos
  omega

/-- Settles O13: the rows of the decoder table, the reads' own replies, and the invariant's bounds. -/
theorem registerReadsReturnTheStoredWord : Obligations.RegisterReadsReturnTheStoredWord := by
  intro s v
  refine ⟨fun h => ?decodes, exec_of_not_stops (i := .rdIntrState) id, exec_of_not_stops (i := .rdIntrEnable) id,
    exec_of_not_stops (i := .rdControl) id, exec_of_not_stops (i := .rdCsid) id,
    exec_of_not_stops (i := .rdErrorEnable) id, exec_of_not_stops (i := .rdErrorStatus) id,
    exec_of_not_stops (i := .rdEventEnable) id, intrState_lt_four, StateInv.csid,
    fun hinv k _ hbit => eq_or_eq_of_bitSet_of_masked hinv.errorStatus hbit, fun t h => ?resets⟩
  case decodes =>
    have row (r : Reg) (off : Word) (hr : s.cfg.offset r = off) := (decode_at_offset h hr v).1
    exact ⟨row .intrState 0x00 rfl, row .intrEnable 0x04 rfl, row .control 0x10 rfl, row .csid 0x1C rfl,
      row .errorEnable 0x2C rfl, row .errorStatus 0x30 rfl, row .eventEnable _ rfl⟩
  case resets =>
    obtain ⟨-, rfl⟩ := exec_next h
    exact ⟨rfl, rfl, rfl, rfl, rfl, rfl, rfl⟩

/-! Writes. -/

/-- No operation returns a word that depends on ALERT_TEST, the diagnostics or the last reply. -/
theorem replyOf_of_alertTest_diags_reply (i : Instr) (s : State) (a : Word) (d : List Diag) (r : Option Word) :
    replyOf i { s with alertTest := a, diags := d, reply := r } = replyOf i s := by
  cases i <;> rfl

/-- Settles O25: the write's `effect` is the store and the diagnostic, and no read's reply looks at either. -/
theorem alertTestWriteLeavesOnlyADiagnostic : Obligations.AlertTestWriteLeavesOnlyADiagnostic := by
  intro s v
  refine ⟨fun h => (decode_at_offset h (r := .alertTest) (off := 0x0C) rfl v).2, _, rfl,
    exec_of_not_stops (i := .wrAlertTest v) id, fun i a b _ ha hb => ?_⟩
  obtain ⟨-, rfl⟩ := exec_next ha
  obtain ⟨-, rfl⟩ := exec_next hb
  exact replyOf_of_alertTest_diags_reply i s _ _ _

/-- Settles O27: the `effect` of a write to a read-only register is the state itself. -/
theorem readOnlyRegistersIgnoreWrites : Obligations.ReadOnlyRegistersIgnoreWrites := by
  intro s v
  exact ⟨fun h => ⟨(decode_at_offset h (r := .status) (off := 0x14) rfl v).2,
    (decode_at_offset h (r := .rxdata) rfl v).2⟩,
    exec_of_not_stops (i := .wrStatus v) id, exec_of_not_stops (i := .wrRxdata v) id⟩

theorem emitIf_eq (b : Bool) (d : Diag) (s : State) :
    emitIf b d s = { s with diags := s.diags ++ (if b then [d] else []) } := by
  cases b
  · simp [emitIf]
  · rfl

/-- Settles O30: each write's `effect` is the evaluated store; `emitIf_eq` writes out the diagnostic. -/
theorem causeEnableWritesStoreThenEvaluate : Obligations.CauseEnableWritesStoreThenEvaluate := by
  intro s v
  refine ⟨fun h => ⟨(decode_at_offset h (r := .errorEnable) (off := 0x2C) rfl v).2,
    (decode_at_offset h (r := .eventEnable) rfl v).2⟩, exec_of_not_stops (i := .wrErrorEnable v) id, ?_⟩
  rw [exec_of_not_stops (i := .wrEventEnable v) id, effect, emitIf_eq]
  rfl

end Sys2Proof.Machine
end

-- ==== Proofs of the family 41_fifo_data: the order of the bytes (O33) ====
section
/-! PROOF. Bytes leave a FIFO in the order they entered it (41_fifo_data.md R160, R161). -/

namespace Sys2Proof.Machine

open Sys2Proof.Claims

/-! One `push` (R160), by whether the queue is full. -/

theorem push_of_full {q : List Byte} {cap : Nat} (h : q.length = cap) (b : Byte) :
    push q cap b = (false, q) := if_pos h

theorem push_of_not_full {q : List Byte} {cap : Nat} (h : q.length ≠ cap) (b : Byte) :
    push q cap b = (true, q ++ [b]) := if_neg h

/-! Many pushes, many pops. -/

/-- A full queue drops every byte that follows, and one with room takes the byte at its back. -/
theorem pushAll_eq_take (bs : List Byte) {q : List Byte} {cap : Nat} (h : q.length ≤ cap) :
    pushAll cap q bs = (q ++ bs).take cap := by
  induction bs generalizing q with
  | nil => rw [List.append_nil, List.take_of_length_le h, pushAll]
  | cons b bs ih =>
    rw [pushAll, ih (push_length_le b h)]
    by_cases hfull : q.length = cap
    · rw [push_of_full hfull, List.take_left' hfull, List.take_left' hfull]
    · rw [push_of_not_full hfull, List.append_assoc, List.singleton_append]

theorem popAll_eq_take_drop (k : Nat) (q : List Byte) : popAll k q = (q.take k, q.drop k) := by
  induction k generalizing q with
  | zero => rfl
  | succ k ih =>
    cases q with
    | nil => rfl
    | cons b rest => simp [popAll, ih]

/-- Settles O33: the two cases of `push`, the equations of `pop`, and their iterations as `take` and `drop`. -/
theorem queuesAreFirstInFirstOut : Obligations.QueuesAreFirstInFirstOut :=
  ⟨fun _ _ b => ⟨fun h => push_of_full h b, fun h => push_of_not_full h b⟩, ⟨pop_nil, fun q b => pop_cons b q⟩,
    fun _ bs _ h => pushAll_eq_take bs h, fun q k => popAll_eq_take_drop k q⟩

end Sys2Proof.Machine
end

-- ==== Proofs of the family 42_command_engine: the exchange of a segment (O36) ====
section
/-! PROOF. What the loop of COMPLETE does as a whole (42_command_engine.md R183). -/

namespace Sys2Proof.Machine

open Sys2Proof.Claims

theorem sentBytes_succ (n : Nat) (tx : List Byte) :
    sentBytes (n + 1) tx = tx.headD 0 :: sentBytes n tx.tail := by
  cases tx <;> simp [sentBytes, List.replicate_succ]

/-- What the transport answers to the `n` exchanges of `exchangeLoop n s`, in call order. -/
def responses : Nat → State → List Byte
  | 0, _ => []
  | n + 1, s => response (sendByte s) s :: responses n (exchangeOne s)

@[simp] theorem responses_length (n : Nat) (s : State) : (responses n s).length = n := by
  induction n generalizing s with
  | zero => rfl
  | succ n ih => rw [responses, List.length_cons, ih]

/-- The loop of R183 in one update: `n` pops, `n` pushes of the responses, and one logged pair for each. -/
theorem exchangeLoop_eq (n : Nat) (s : State) :
    exchangeLoop n s = { s with
      tx := s.tx.drop n
      rx := pushAll s.cfg.rxCap s.rx (responses n s)
      xlog := s.xlog ++ (sentBytes n s.tx).zip (responses n s)
      answers := s.answers.drop n } := by
  induction n generalizing s with
  | zero => simp [exchangeLoop, responses, pushAll]
  | succ n ih => simp [exchangeLoop, ih, exchangeOne, responses, pushAll, sentBytes_succ]

/-- Settles O36: by the loop as one update, whose pushes are cut off at the capacity of the receive FIFO. -/
theorem completionExchangesExactlyTheSegment : Obligations.CompletionExchangesExactlyTheSegment := by
  intro s n hbusy hroom
  have hexec : exec .complete s = done (evaluate (finishTransfer (exchangeLoop n s))) := by
    simp only [exec, execComplete, hbusy]
  refine ⟨decode_kindCode_complete s.cfg, responses n s, responses_length n s, ?_⟩
  rw [hexec, exchangeLoop_eq, pushAll_eq_take _ hroom]
  rfl

end Sys2Proof.Machine
end

-- ==== Proofs of the family 43_chip_select: CONFIGOPTS (O44) ====
section
/-! PROOF. A CONFIGOPTS access reaches the entry that CSID selects, and no other (43_chip_select.md R202, R203). -/

namespace Sys2Proof.Machine

open Sys2Proof.Claims

/-- CSID selects an entry of the table (R23 (a), R43). -/
theorem csid_lt_configTable_length {s : State} (hinv : StateInv s) :
    s.csid.toNat < s.configTable.length := by
  rw [hinv.table]; exact hinv.csid

theorem exec_rdConfigopts_of_entry {s : State} {w : Word} (h : s.configTable[s.csid.toNat]? = some w) :
    exec .rdConfigopts s = .next { s with reply := some w } := by
  have hlt : s.csid.toNat < s.configTable.length := (List.getElem?_eq_some_iff.mp h).1
  rw [exec_of_not_stops (i := .rdConfigopts) (Nat.not_le.mpr hlt), effect, replyOf, h]

/-- Settles O44: neither access stops under the invariant, and the write is a `List.set` at CSID, which it leaves
where it is. -/
theorem configoptsReachesTheSelectedEntry : Obligations.ConfigoptsReachesTheSelectedEntry := by
  intro s v hinv
  have hlt := csid_lt_configTable_length hinv
  obtain ⟨hread, hwrite⟩ := decode_at_offset hinv.config (r := .configopts) (off := 0x18) rfl v
  have hentry := List.getElem?_eq_getElem hlt
  have hstored : (s.configTable.set s.csid.toNat v)[s.csid.toNat]? = some v := List.getElem?_set_self hlt
  exact ⟨hread, hwrite, ⟨_, hentry, exec_rdConfigopts_of_entry hentry⟩,
    _, exec_of_not_stops (i := .wrConfigopts v) (Nat.not_le.mpr hlt), rfl, List.length_set, hstored,
    fun _ hj => List.getElem?_set_ne hj.symm, exec_rdConfigopts_of_entry hstored⟩

end Sys2Proof.Machine
end

-- ==== Proofs of the family 60_exceptions: error bits and the evaluator (O47, O49, O50, O52) ====
section
/-! PROOF. How long a bit of ERROR_STATUS and of INTR_STATE stays, and what the evaluator looks at
(60_exceptions.md R221, R230, R231, R234). -/

namespace Sys2Proof.Machine

open Sys2Proof.Claims

/-! Bits that stay: ERROR_STATUS (R221) and INTR_STATE (R234). -/

theorem bitSet_effect_errorStatus {i : Instr} {s : State} {k : Nat} (hw : ¬ Writes .errorStatus i)
    (hr : i ≠ .reset) (hbit : bitSet s.errorStatus k = true) : bitSet (effect i s).errorStatus k = true := by
  cases i
  case wrErrorStatus v => exact absurd ⟨v, rfl⟩ hw
  case reset => exact absurd rfl hr
  case wrCsid v => simp only [effect, evaluate_errorStatus]; split <;> simp [raiseInvalidCsid, hbit]
  case wrCommand v => simp only [effect]; split <;> simp [raiseCommandBusy, hbit]
  case complete => simp only [effect]; split <;> simp [hbit]
  case wrControl v | wrEventEnable v => simp [effect, hbit]
  all_goals exact hbit

/-- Settles O47: a raise is the `or` with one mask, and of the operations only WR.ERROR_STATUS and RESET do more
to ERROR_STATUS than raise. -/
theorem errorBitsStayUntilCleared : Obligations.ErrorBitsStayUntilCleared := by
  refine ⟨fun s => ⟨rfl, rfl, ?_, ?_⟩, fun i s t k hexec hw hr hbit => ?_⟩
  · simp [raiseCommandBusy, BitVec.or_assoc]
  · simp [raiseInvalidCsid, BitVec.or_assoc]
  · obtain ⟨-, rfl⟩ := exec_next hexec
    exact bitSet_effect_errorStatus hw hr hbit

theorem bitSet_effect_intrState {i : Instr} {s : State} {k : Nat}
    (hack : ∀ v, i = .wrIntrState v → bitSet v k = false) (hr : i ≠ .reset)
    (hbit : bitSet s.intrState k = true) : bitSet (effect i s).intrState k = true := by
  cases i
  case wrIntrState v => simp [effect, acknowledge, hbit, hack v rfl]
  case reset => exact absurd rfl hr
  case wrCsid v => refine bitSet_evaluate_of_bitSet ?_; split <;> exact hbit
  case wrCommand v => simp only [effect]; split <;> exact bitSet_evaluate_of_bitSet (by simpa using hbit)
  case complete =>
    simp only [effect]
    split
    · exact bitSet_evaluate_of_bitSet (by simpa using hbit)
    · exact hbit
  case wrEventEnable v => exact bitSet_evaluate_of_bitSet (by simpa using hbit)
  case wrIntrTest v | wrTxdata v | wrErrorEnable v => exact bitSet_evaluate_of_bitSet hbit
  case wrControl v => simpa [effect] using hbit
  all_goals exact hbit

/-- Settles O52: any other operation than RESET and an acknowledge of the bit would have kept it. -/
theorem intrStateIsClearedOnlyByAcknowledgeOrReset :
    Obligations.IntrStateIsClearedOnlyByAcknowledgeOrReset := by
  refine ⟨fun i s t k hexec hr hset hclear => ?_, fun s k => bitSet_evaluate_of_bitSet, fun s t hexec => ?_⟩
  · obtain ⟨-, rfl⟩ := exec_next hexec
    by_contra! hack
    have hkept := bitSet_effect_intrState (fun v hv => Bool.eq_false_of_not_eq_true (hack v hv)) hr hset
    rw [hkept] at hclear
    cases hclear
  · obtain ⟨-, rfl⟩ := exec_next hexec
    rfl

/-! What a well-formed layout says of the bits that meet in one register. -/

theorem fieldsWf_of_wf {c : Config} (h : c.wf = true) :
    fieldsWf c.layout.intrState.fields = true ∧ fieldsWf c.layout.status.fields = true ∧
      fieldsWf c.layout.errorStatus.fields = true := by
  simp_all [Config.wf, Layout.wf]

/-- Both orders, so that `simp` finds the one it meets. -/
theorem oneBit_disjoint_iff {i j : Nat} : i + 1 ≤ j ∨ j + 1 ≤ i ↔ i ≠ j ∧ j ≠ i := by omega

/-- A bit disjoint from a field is none of its bits, in the form of `bitSet_fieldWord`. -/
theorem field_disjoint_oneBit_iff {l w i : Nat} :
    l + w ≤ i ∨ i + 1 ≤ l ↔ (decide (l ≤ i) && decide (i < l + w)) = false := by
  simp only [Bool.and_eq_false_iff, decide_eq_false_iff_not]; omega

theorem intrState_error_ne_spiEvent {c : Config} (h : c.wf = true) :
    c.layout.intrState.error ≠ c.layout.intrState.spiEvent := by
  obtain ⟨hwf, -, -⟩ := fieldsWf_of_wf h
  have hdisj := pairwise_disjoint_of_fieldsWf hwf
  simp only [IntrLayout.fields, List.pairwise_pair, oneBit, oneBit_disjoint_iff] at hdisj
  exact hdisj.1

theorem errorStatus_cmdinval_ne {c : Config} (h : c.wf = true) :
    c.layout.errorStatus.cmdinval ≠ c.layout.errorStatus.cmdbusy ∧
      c.layout.errorStatus.cmdinval ≠ c.layout.errorStatus.csidinval := by
  obtain ⟨-, -, hwf⟩ := fieldsWf_of_wf h
  have hdisj := pairwise_disjoint_of_fieldsWf hwf
  simp only [ErrorStatusLayout.fields, List.pairwise_cons, List.forall_mem_cons, oneBit,
    oneBit_disjoint_iff] at hdisj
  simp only [ne_eq, hdisj, not_false_eq_true, and_self]

/-- The three bits of the STATUS word that are cause inputs (R231): each lies in no other live field. -/
theorem bitSet_statusWord_causes {s : State} (h : s.cfg.wf = true) :
    bitSet (statusWord s) s.cfg.layout.status.ready = statusReady s ∧
    bitSet (statusWord s) s.cfg.layout.status.txempty = statusTxempty s ∧
    bitSet (statusWord s) s.cfg.layout.status.rxfull = statusRxfull s := by
  obtain ⟨-, hwf, -⟩ := fieldsWf_of_wf h
  have hfits : ∀ f ∈ s.cfg.layout.status.fields, f.lsb + f.width ≤ 32 :=
    fun f hf => (fits_of_fieldsWf hwf hf).2
  have hdisj := pairwise_disjoint_of_fieldsWf hwf
  simp only [StatusLayout.fields, List.forall_mem_cons, oneBit, Nat.succ_le_iff] at hfits
  simp only [StatusLayout.fields, List.pairwise_cons, List.forall_mem_cons, oneBit, oneBit_disjoint_iff,
    field_disjoint_oneBit_iff] at hdisj
  have ⟨htxqd, hrxqd, _⟩ := hfits
  simp [bitSet_statusWord htxqd hrxqd, hfits, hdisj]

/-! The evaluator and its causes (R230, R231). -/

/-- The SPI_EVENT causes in terms of the STATUS word, as R230 writes them. -/
theorem evtCause_eq_statusWord {s : State} (h : s.cfg.wf = true) :
    evtCause s =
      (bitSet s.intrTest s.cfg.layout.intrTest.spiEvent ||
        (bitSet s.eventEnable s.cfg.layout.eventEnable.ready &&
          bitSet (statusWord s) s.cfg.layout.status.ready) ||
        (bitSet s.eventEnable s.cfg.layout.eventEnable.txempty &&
          bitSet (statusWord s) s.cfg.layout.status.txempty) ||
        (bitSet s.eventEnable s.cfg.layout.eventEnable.rxfull &&
          bitSet (statusWord s) s.cfg.layout.status.rxfull)) := by
  obtain ⟨hready, htxempty, hrxfull⟩ := bitSet_statusWord_causes h
  rw [hready, htxempty, hrxfull, evtCause]

/-- The rule of one line: a latched bit stays, and one that is not is latched by an enabled cause. -/
theorem or_enabled_and_not (latched enable cause : Bool) :
    (latched || (enable && !latched && cause)) = (latched || (enable && cause)) := by
  cases latched <;> simp

theorem bitSet_evaluate_error {s : State} (h : s.cfg.wf = true) (hk : s.cfg.layout.intrState.error < 32) :
    bitSet (evaluate s).intrState s.cfg.layout.intrState.error =
      (bitSet s.intrState s.cfg.layout.intrState.error ||
        (bitSet s.intrEnable s.cfg.layout.intrEnable.error && errCause s)) := by
  have hne := (intrState_error_ne_spiEvent h).symm
  simp [bitSet_evaluate, errorFires, hk, hne, or_enabled_and_not]

theorem bitSet_evaluate_spiEvent {s : State} (h : s.cfg.wf = true)
    (hk : s.cfg.layout.intrState.spiEvent < 32) :
    bitSet (evaluate s).intrState s.cfg.layout.intrState.spiEvent =
      (bitSet s.intrState s.cfg.layout.intrState.spiEvent ||
        (bitSet s.intrEnable s.cfg.layout.intrEnable.spiEvent && evtCause s)) := by
  have hne := intrState_error_ne_spiEvent h
  simp [bitSet_evaluate, eventFires, hk, hne, or_enabled_and_not]

theorem bitSet_evaluate_of_ne {s : State} {k : Nat} (he : k ≠ s.cfg.layout.intrState.error)
    (hv : k ≠ s.cfg.layout.intrState.spiEvent) :
    bitSet (evaluate s).intrState k = bitSet s.intrState k := by
  simp [bitSet_evaluate, he.symm, hv.symm]

/-- Settles O49: one lemma for the bit of each line and one for the other bits. -/
theorem evaluatorLatchesEnabledCauses : Obligations.EvaluatorLatchesEnabledCauses := by
  intro s h
  refine ⟨_, rfl, fun k hk => ?_⟩
  change bitSet (evaluate s).intrState k = _
  split
  next he => subst he; exact bitSet_evaluate_error h hk
  next he =>
    split
    next hv => subst hv; rw [← evtCause_eq_statusWord h]; exact bitSet_evaluate_spiEvent h hk
    next hv => exact bitSet_evaluate_of_ne he hv

/-- An evaluation looks at nothing but INTR_STATE, INTR_ENABLE and the two causes. -/
theorem evaluate_intrState_congr {s t : State} (hcfg : s.cfg = t.cfg) (hstate : s.intrState = t.intrState)
    (henable : s.intrEnable = t.intrEnable) (herr : errCause s = errCause t) (hevt : evtCause s = evtCause t) :
    (evaluate s).intrState = (evaluate t).intrState := by
  simp only [evaluate, errorFires, eventFires, hcfg, hstate, henable, herr, hevt]

/-- The invariant leaves CMDINVAL 0, since it is neither of the two bits that are ever raised (R23 (f)). -/
theorem bitSet_cmdinval {s : State} (hinv : StateInv s) :
    bitSet s.errorStatus s.cfg.layout.errorStatus.cmdinval = false := by
  refine Bool.eq_false_of_not_eq_true fun hbit => ?_
  obtain ⟨hbusy, hcsid⟩ := errorStatus_cmdinval_ne hinv.config
  exact (eq_or_eq_of_bitSet_of_masked hinv.errorStatus hbit).elim hbusy hcsid

/-- Settles O50: states that agree on the listed bits have the same two causes. -/
theorem listedInputsAreTheOnlyCauses : Obligations.ListedInputsAreTheOnlyCauses := by
  refine ⟨fun s t hcfg h hstate henable htestErr htestEvt hee hes hev hst => ?_, fun s => bitSet_cmdinval⟩
  have h' : t.cfg.wf = true := hcfg ▸ h
  simp only [List.forall_mem_cons] at hee hes hev hst
  have herr : errCause s = errCause t := by
    simp only [errCause, ← hcfg, htestErr, hee, hes]
  have hevt : evtCause s = evtCause t := by
    rw [evtCause_eq_statusWord h, evtCause_eq_statusWord h']
    simp only [← hcfg, htestEvt, hev, hst]
  exact evaluate_intrState_congr hcfg hstate henable herr hevt

end Sys2Proof.Machine
end

-- ==== Proofs of the family other: the encoder and the decoder (O1, O3, O4) ====
section
/-! PROOF. Encoding and decoding are inverse on the operations, and what the decoder rejects (30_encoding.md
R101, R102, R106). -/

namespace Sys2Proof

open Sys2Proof.Claims Sys2Proof.Machine

/-! The encoder, by the shape of the operation. -/

theorem decode_readRequest (c : Config) (off : Word) :
    decode c (readRequest off) = .ok (decodeBus c false off 0) := decode_bus c false off 0

theorem decode_writeRequest (c : Config) (off v : Word) :
    decode c (writeRequest off v) = .ok (decodeBus c true off v) := decode_bus c true off v

theorem decodeBus_offset {c : Config} (h : c.wf = true) (r : Reg) (v : Word) :
    decodeBus c false (c.offset r) v = .read r ∧ decodeBus c true (c.offset r) v = .write r v := by
  simp [decodeBus, regAt_offset c h r]

theorem decodeBus_of_regAt_eq_none {c : Config} {off : Word} (h : regAt c off = none) (v : Word) :
    decodeBus c false off v = .rdBad off ∧ decodeBus c true off v = .wrBad off v := by
  simp [decodeBus, h]

/-- Settles O1: a register's request carries the register's offset, which selects that register and no other, a
bad-offset request an offset that selects none, and the two events have kinds of their own. -/
theorem decodeOfEncodeIsIdentity : Obligations.DecodeOfEncodeIsIdentity := by
  intro c i hc hi
  cases i
  case rdBad off =>
    rw [encode, decode_readRequest, (decodeBus_of_regAt_eq_none (Option.isNone_iff_eq_none.mp hi) 0).1]
  case wrBad off v =>
    rw [encode, decode_writeRequest, (decodeBus_of_regAt_eq_none (Option.isNone_iff_eq_none.mp hi) v).2]
  case complete => exact decode_kindCode_complete c (BitVec.ofBool false ++ 0#32) 0
  case reset => exact decode_kindCode_reset c (BitVec.ofBool false ++ 0#32) 0
  all_goals
    simp only [encode, decode_readRequest, decode_writeRequest, decodeBus_offset hc, Instr.read, Instr.write]

/-! What the decoder accepts and rejects. -/

theorem wf_read (c : Config) (r : Reg) : (Instr.read r).wf c = true := by cases r <;> rfl

theorem wf_write (c : Config) (r : Reg) (v : Word) : (Instr.write r v).wf c = true := by cases r <;> rfl

theorem wf_decodeBus (c : Config) (we : Bool) (off v : Word) : (decodeBus c we off v).wf c = true := by
  unfold decodeBus
  cases hr : regAt c off with
  | some r =>
    cases we with
    | false => exact wf_read c r
    | true => exact wf_write c r v
  | none => cases we <;> simp [Instr.wf, hr]

theorem wf_of_decode {c : Config} {r : Request} {i : Instr} (h : decode c r = .ok i) : i.wf c = true := by
  unfold decode at h
  split_ifs at h <;> cases h
  · exact wf_decodeBus c _ _ _
  · rfl
  · rfl

/-- Of the four kinds only 3 has no operation (R101). -/
theorem decode_eq_error_iff (c : Config) (r : Request) :
    (∃ e, decode c r = .error e) ↔ r.code.extractLsb' 35 5 ≠ 0 ∨ r.kind = 3 := by
  have hkinds : ∀ k : BitVec 2, k = 0 ∨ k = 1 ∨ k = 2 ∨ k = 3 := by decide
  by_cases habove : r.code.extractLsb' 35 5 = 0
  · rcases hkinds r.kind with hk | hk | hk | hk <;> simp [decode, habove, hk]
  · simp only [decode, if_pos habove]
    exact iff_of_true ⟨_, rfl⟩ (.inl habove)

/-- Settles O3: by the two lemmas above, for what is accepted and for what is rejected. -/
theorem decoderRejectsOnlyWhatIsNoStepCode : Obligations.DecoderRejectsOnlyWhatIsNoStepCode :=
  fun c r => ⟨fun _ => wf_of_decode, decode_eq_error_iff c r⟩

/-- Settles O4: each word is a closed term, and the decoder computes its operation. -/
theorem sampleStepCodesDecode : Obligations.SampleStepCodesDecode :=
  ⟨rfl, rfl, rfl, rfl, rfl, rfl, rfl, rfl⟩

end Sys2Proof
end

-- ==== Proofs of the family other: the frame of every operation (O12, O31, O57, O58) ====
section
/-! PROOF. Which field an operation may change (20_memory.md R75, 10_state.md R46, R49, 60_exceptions.md R232). -/

namespace Sys2Proof.Machine

open Sys2Proof.Claims

/-! COMPLETE and WR.COMMAND by the state of the engine (R181, R183). -/

theorem effect_complete_of_busy {s : State} {n : Nat} (h : s.engine = .busy n) :
    effect .complete s = evaluate (finishTransfer (exchangeLoop n s)) := by
  simp [effect, h]

theorem effect_wrCommand_of_ready {s : State} (h : s.engine = .ready) (v : Word) :
    effect (.wrCommand v) s = evaluate (acceptCommand v s) := by
  simp [effect, h]

theorem effect_wrCommand_of_busy {s : State} {n : Nat} (h : s.engine = .busy n) (v : Word) :
    effect (.wrCommand v) s = evaluate (raiseCommandBusy s) := by
  simp [effect, h]

/-! INTR_STATE: an operation of R232 changes it in its final evaluation only. -/

theorem effect_of_evaluates {i : Instr} {s : State} (hs : ¬ Stops i s) (he : evaluates i = true) :
    ∃ u, effect i s = evaluate u ∧ u.cfg = s.cfg ∧ u.intrState = s.intrState := by
  cases i <;> cases he
  case wrCsid v => exact ⟨_, rfl, by split <;> rfl, by split <;> rfl⟩
  case wrCommand v =>
    cases hb : s.engine with
    | ready => exact ⟨_, effect_wrCommand_of_ready hb v, by simp, by simp⟩
    | busy n => exact ⟨_, effect_wrCommand_of_busy hb v, rfl, rfl⟩
  case complete =>
    cases hb : s.engine with
    | ready => exact absurd hb hs
    | busy n => exact ⟨_, effect_complete_of_busy hb, by simp, by simp⟩
  case wrEventEnable v => exact ⟨_, rfl, by simp, by simp⟩
  all_goals exact ⟨_, rfl, rfl, rfl⟩

/-! The registers. -/

/-- The registers that an operation other than RESET does not name are those of the state it runs in. -/
theorem effect_registers_frame {i : Instr} (hr : i ≠ .reset) (s : State) :
    (¬ Writes .intrState i → evaluates i = false → (effect i s).intrState = s.intrState) ∧
    (¬ Writes .intrEnable i → (effect i s).intrEnable = s.intrEnable) ∧
    (¬ Writes .intrTest i → (effect i s).intrTest = s.intrTest) ∧
    (¬ Writes .alertTest i → (effect i s).alertTest = s.alertTest) ∧
    (¬ Writes .control i → (effect i s).control = s.control) ∧
    (¬ Writes .configopts i → (effect i s).configTable = s.configTable) ∧
    (¬ Writes .csid i → (effect i s).csid = s.csid) ∧
    (¬ Writes .command i → (effect i s).command = s.command) ∧
    (¬ Writes .errorEnable i → (effect i s).errorEnable = s.errorEnable) ∧
    (¬ Writes .errorStatus i → ¬ Writes .command i → ¬ Writes .csid i →
      (effect i s).errorStatus = s.errorStatus) ∧
    (¬ Writes .eventEnable i → (effect i s).eventEnable = s.eventEnable) := by
  cases i
  case reset => exact absurd rfl hr
  case wrCsid v => simp only [effect]; split <;> simp [Writes, Instr.write, evaluates]
  case wrCommand v => simp only [effect]; split <;> simp [Writes, Instr.write, evaluates]
  case complete => simp only [effect]; split <;> simp [evaluates]
  all_goals simp [effect, Writes, Instr.write, evaluates]

theorem bitSet_effect_intrState_of_ne {i : Instr} {s : State} {k : Nat} (hs : ¬ Stops i s) (hr : i ≠ .reset)
    (hw : ¬ Writes .intrState i) (he : k ≠ s.cfg.layout.intrState.error)
    (hv : k ≠ s.cfg.layout.intrState.spiEvent) :
    bitSet (effect i s).intrState k = bitSet s.intrState k := by
  cases hev : evaluates i with
  | false =>
    obtain ⟨hframe, -⟩ := effect_registers_frame hr s
    rw [hframe hw hev]
  | true =>
    obtain ⟨u, hu, hcfg, hstate⟩ := effect_of_evaluates hs hev
    rw [hu, bitSet_evaluate_of_ne (hcfg ▸ he) (hcfg ▸ hv), hstate]

/-- Settles O57: the frame of `effect`, and for INTR_STATE the bits that an evaluation does not reach. -/
theorem registersChangeOnlyByTheirWriters : Obligations.RegistersChangeOnlyByTheirWriters := by
  intro i s t hexec hr
  obtain ⟨hs, rfl⟩ := exec_next hexec
  obtain ⟨hstate, henable, htest, halert, hcontrol, htable, hcsid, hcommand, hee, hes, hev⟩ :=
    effect_registers_frame hr s
  exact ⟨hstate, henable, htest, halert, hcontrol, htable, hcsid, hcommand, hee, hes, hev,
    fun k he hv hw => bitSet_effect_intrState_of_ne hs hr hw he hv⟩

theorem exec_cfg {i : Instr} {s t : State} (h : exec i s = .next t) : t.cfg = s.cfg := by
  obtain ⟨-, rfl⟩ := exec_next h
  exact effect_cfg i s

/-- Settles O12: a step is an operation, in a state of the same configuration, or nothing. -/
theorem configurationNeverChanges : Obligations.ConfigurationNeverChanges := by
  intro s t h
  rcases step_next h with ⟨r, rest, i, -, -, hexec⟩ | ⟨n, -, -, hexec⟩ | ⟨-, -, rfl⟩
  · rw [exec_cfg hexec]
  · exact exec_cfg hexec
  · rfl

/-- Settles O31: the frame of INTR_TEST is a clause of O57. -/
theorem intrTestWriteForcesUntilRewritten : Obligations.IntrTestWriteForcesUntilRewritten := by
  refine ⟨fun s v => ⟨fun h => (decode_at_offset h (r := .intrTest) (off := 0x08) rfl v).2,
    exec_of_not_stops (i := .wrIntrTest v) id⟩, fun i s t hexec hw hr => ?_⟩
  obtain ⟨-, -, htest, -⟩ := registersChangeOnlyByTheirWriters i s t hexec hr
  exact htest hw

/-! The logs. -/

theorem effect_xlog_answers {i : Instr} (hc : i ≠ .complete) (s : State) :
    (effect i s).xlog = s.xlog ∧ (effect i s).answers = s.answers := by
  cases i
  case complete => exact absurd rfl hc
  case wrCsid v => simp only [effect]; split <;> exact ⟨rfl, rfl⟩
  case wrCommand v => simp only [effect]; split <;> simp
  case wrControl v | wrEventEnable v => simp [effect]
  all_goals exact ⟨rfl, rfl⟩

theorem xlog_prefix_effect (i : Instr) (s : State) : s.xlog <+: (effect i s).xlog := by
  by_cases hc : i = .complete
  · subst hc
    cases hb : s.engine with
    | ready => simp [effect, hb]
    | busy n => simp [effect_complete_of_busy hb, exchangeLoop_eq]
  · rw [(effect_xlog_answers hc s).1]

theorem diags_prefix_effect (i : Instr) (s : State) : s.diags <+: (effect i s).diags := by
  cases i
  case wrCsid v => simp only [effect]; split <;> simp
  case wrCommand v => simp only [effect]; split <;> simp
  case complete => simp only [effect]; split <;> simp
  all_goals simp [effect]

theorem effect_diags {i : Instr} (hrd : ∀ off, i ≠ .rdBad off) (hwr : ∀ off v, i ≠ .wrBad off v)
    (ha : ¬ Writes .alertTest i) (hc : ¬ Writes .control i) (hcmd : ¬ Writes .command i)
    (hopts : ¬ Writes .configopts i) (hev : ¬ Writes .eventEnable i) (s : State) :
    (effect i s).diags = s.diags := by
  cases i
  case rdBad off => exact absurd rfl (hrd off)
  case wrBad off v => exact absurd rfl (hwr off v)
  case wrAlertTest v => exact absurd ⟨v, rfl⟩ ha
  case wrControl v => exact absurd ⟨v, rfl⟩ hc
  case wrCommand v => exact absurd ⟨v, rfl⟩ hcmd
  case wrConfigopts v => exact absurd ⟨v, rfl⟩ hopts
  case wrEventEnable v => exact absurd ⟨v, rfl⟩ hev
  case wrCsid v => simp only [effect]; split <;> rfl
  case complete => simp only [effect]; split <;> simp
  all_goals rfl

/-- Settles O58: from what `effect` appends to each log. -/
theorem logsOnlyGrow : Obligations.LogsOnlyGrow := by
  intro i s t h
  obtain ⟨-, rfl⟩ := exec_next h
  exact ⟨xlog_prefix_effect i s, diags_prefix_effect i s, fun hc => effect_xlog_answers hc s,
    fun hrd hwr ha hc hcmd hopts hev => effect_diags hrd hwr ha hc hcmd hopts hev s⟩

end Sys2Proof.Machine
end

-- ==== Proofs of the family other: the command engine (O14, O35, O37, O38, O39, O40, O41, O42) ====
section
/-! PROOF. WR.COMMAND, COMPLETE and the transport (42_command_engine.md R180 to R188, 20_memory.md R78). -/

namespace Sys2Proof.Machine

open Sys2Proof.Claims

/-! WR.COMMAND (R181). -/

theorem segmentLength_eq (c : Config) (v : Word) :
    segmentLength c v = v.toNat % 2 ^ c.layout.command.lenWidth := by
  simp [segmentLength, fieldVal, lenField]

/-- The accept branch in one update. -/
theorem acceptCommand_eq (v : Word) (s : State) :
    acceptCommand v s = { s with
      command := v
      engine := .busy (v.toNat % 2 ^ s.cfg.layout.command.lenWidth)
      diags := s.diags ++
        (if bitSet v s.cfg.layout.command.csaat then [.unimp .csaat] else []) ++
        (if fieldVal s.cfg.layout.command.speed v ≠ 0 then [.unimp .speed] else []) ++
        (if fieldVal s.cfg.layout.command.direction v ≠ 3 then [.unimp .direction] else []) } := by
  simp [acceptCommand, emitCommandDiags, emitIf_eq, bidirectional, segmentLength_eq]

theorem exec_wrCommand (s : State) (v : Word) :
    exec (.wrCommand v) s = .next { effect (.wrCommand v) s with reply := none } :=
  exec_of_not_stops (i := .wrCommand v) id

/-- Settles O35: one branch for each state of the engine. -/
theorem commandWriteIsAcceptedOrRejected : Obligations.CommandWriteIsAcceptedOrRejected := by
  intro s v
  refine ⟨fun h => (decode_at_offset h (r := .command) (off := 0x20) rfl v).2, fun hready => ?_, fun n hbusy => ?_⟩
  · rw [exec_wrCommand, effect_wrCommand_of_ready hready, acceptCommand_eq]
  · rw [exec_wrCommand, effect_wrCommand_of_busy hbusy]
    rfl

theorem effect_wrCommand_command (s : State) (v : Word) :
    (effect (.wrCommand v) s).command = if s.engine = .ready then v else s.command := by
  cases he : s.engine with
  | ready => simp [effect_wrCommand_of_ready he]
  | busy n => simp [effect_wrCommand_of_busy he]

/-- Settles O14: the read answers the field, and the write stores the word only while READY. -/
theorem commandReadReturnsTheLastAcceptedWord : Obligations.CommandReadReturnsTheLastAcceptedWord := by
  refine fun s => ⟨exec_of_not_stops (i := .rdCommand) id, fun v t h => ?_⟩
  obtain ⟨-, rfl⟩ := exec_next h
  rw [← effect_wrCommand_command]
  exact exec_of_not_stops (i := .rdCommand) id

/-! The engine (R180). -/

theorem effect_engine {i : Instr} {s : State} (hs : ¬ Stops i s) : (effect i s).engine = nextEngine i s := by
  cases i
  case wrCommand v =>
    cases he : s.engine with
    | ready => simp [effect_wrCommand_of_ready he, nextEngine, he, segmentLength_eq]
    | busy n => simp [effect_wrCommand_of_busy he, nextEngine, he]
  case complete =>
    cases he : s.engine with
    | ready => exact absurd he hs
    | busy n => simp [effect_complete_of_busy he, nextEngine]
  case wrCsid v => simp only [effect]; split <;> rfl
  case wrControl v | wrEventEnable v => simp [effect, nextEngine]
  all_goals rfl

theorem busy_of_not_stops_complete {s : State} (hs : ¬ Stops .complete s) : ∃ n, s.engine = .busy n := by
  cases he : s.engine with
  | ready => exact absurd he hs
  | busy n => exact ⟨n, rfl⟩

/-- Settles O40: a completion that does not stop found the engine BUSY. -/
theorem engineFollowsItsTransitionTable : Obligations.EngineFollowsItsTransitionTable := by
  intro i s t h
  obtain ⟨hs, rfl⟩ := exec_next h
  exact ⟨effect_engine hs, by rintro rfl; exact busy_of_not_stops_complete hs⟩

/-! COMPLETE (R183). -/

theorem exec_complete_of_ready {s : State} (h : s.engine = .ready) :
    exec .complete s = .refused .completeNotEnabled := by
  simp [exec, execComplete, h]

theorem exec_complete_of_busy {s : State} {n : Nat} (h : s.engine = .busy n) :
    exec .complete s = .next { evaluate (finishTransfer (exchangeLoop n s)) with reply := none } := by
  simp [exec, execComplete, h, done]

/-- Settles O39: while BUSY the operation answers a next state. -/
theorem completionIsRefusedExactlyWhileReady : Obligations.CompletionIsRefusedExactlyWhileReady := by
  intro s
  cases he : s.engine with
  | ready => simp [exec_complete_of_ready he]
  | busy n => simp [exec_complete_of_busy he]

/-- Settles O38: a LEN of 0 is latched as such, and the loop of R183 with no iteration is the identity. -/
theorem zeroLengthCommandOnlyDrainsTheQueue : Obligations.ZeroLengthCommandOnlyDrainsTheQueue := by
  refine ⟨fun s t v hready hlen h => ?_, fun s hbusy => ?_⟩
  · obtain ⟨-, rfl⟩ := exec_next h
    simp [effect_wrCommand_of_ready hready, segmentLength_eq, hlen]
  · rw [exec_complete_of_busy hbusy]
    rfl

/-- Settles O41: the registers are untouched by the frame of every operation, and the state before the final
evaluation holds the INTR_STATE of `s`. -/
theorem engineOperationsLeaveOtherRegistersAlone : Obligations.EngineOperationsLeaveOtherRegistersAlone := by
  intro i s t hi h
  have hev : evaluates i = true := by rcases hi with ⟨v, rfl⟩ | rfl <;> rfl
  have hr : i ≠ .reset := by rintro rfl; cases hev
  have hframe := registersChangeOnlyByTheirWriters i s t h hr
  obtain ⟨hs, rfl⟩ := exec_next h
  obtain ⟨u, hu, -, hstate⟩ := effect_of_evaluates hs hev
  have heval : ∀ r, evaluate { evaluate u with intrState := s.intrState, reply := r } =
      { evaluate u with reply := r } := by
    intro r; rw [← hstate]; rfl
  rcases hi with ⟨v, rfl : i = .wrCommand v⟩ | rfl <;>
    simp only [Writes, Instr.write, reduceCtorEq, exists_false, not_false_eq_true, true_imp_iff] at hframe
  · exact ⟨by simp only [hframe, and_self], nofun, by rw [hu]; exact heval _⟩
  · exact ⟨by simp only [hframe, and_self], fun _ => by simp only [hframe, and_self], by rw [hu]; exact heval _⟩

/-! What a completion does not read (R184). -/

/-- The responses depend on the transmit FIFO, the answers and the exchanges before, and on nothing else. -/
theorem responses_congr (n : Nat) {s u : State} (htx : s.tx = u.tx) (hans : s.answers = u.answers)
    (hlog : s.xlog = u.xlog) : responses n s = responses n u := by
  induction n generalizing s u with
  | zero => rfl
  | succ n ih =>
    have hresp : response (sendByte s) s = response (sendByte u) u := by
      simp only [response, sendByte_eq, htx, hans, hlog]
    have hrest : responses n (exchangeOne s) = responses n (exchangeOne u) :=
      ih (by simp [htx]) (by simp [hans]) (by
        rw [exchangeOne_xlog, exchangeOne_xlog, hresp, hlog, sendByte_eq, sendByte_eq, htx])
    rw [responses, responses, hresp, hrest]

/-- COMPLETE in one update. -/
theorem effect_complete_eq {s : State} {n : Nat} (h : s.engine = .busy n) :
    effect .complete s = evaluate { s with
      tx := []
      rx := pushAll s.cfg.rxCap s.rx (responses n s)
      engine := .ready
      xlog := s.xlog ++ (sentBytes n s.tx).zip (responses n s)
      answers := s.answers.drop n } := by
  rw [effect_complete_of_busy h, exchangeLoop_eq]
  rfl

/-- The same in a state `u` that agrees with `s` on what the responses depend on. -/
theorem effect_complete_of_agree {s u : State} {n : Nat} (h : u.engine = .busy n) (htx : u.tx = s.tx)
    (hans : u.answers = s.answers) (hlog : u.xlog = s.xlog) :
    effect .complete u = evaluate { u with
      tx := []
      rx := pushAll u.cfg.rxCap u.rx (responses n s)
      engine := .ready
      xlog := u.xlog ++ (sentBytes n u.tx).zip (responses n s)
      answers := u.answers.drop n } := by
  rw [effect_complete_eq h, responses_congr n htx hans hlog]

/-! Operations that commute with a change of the state (R184). -/

/-- A stop is the operation's own, whatever the state. -/
theorem exec_of_stops_of_stops {i : Instr} {s u : State} (hs : Stops i s) (hu : Stops i u) (f : State → State) :
    exec i u = mapNext f (exec i s) := by
  cases i
  case complete => rw [exec_complete_of_ready hs, exec_complete_of_ready hu, mapNext]
  case rdConfigopts =>
    simp [exec, execRdConfigopts, mapNext, List.getElem?_eq_none (show _ ≤ _ from hs),
      List.getElem?_eq_none (show _ ≤ _ from hu)]
  case wrConfigopts v =>
    simp [exec, execWrConfigopts, mapNext, Nat.not_lt.mpr (show s.configTable.length ≤ s.csid.toNat from hs),
      Nat.not_lt.mpr (show u.configTable.length ≤ u.csid.toNat from hu)]
  all_goals exact False.elim hs

/-- An operation answers in `u` what `f` makes of its answer in `s`, if it does so where it does not stop. -/
theorem exec_eq_mapNext {f : State → State} {i : Instr} {s u : State} (hstops : Stops i u ↔ Stops i s)
    (hnext : ¬ Stops i s →
      { effect i u with reply := replyOf i u } = f { effect i s with reply := replyOf i s }) :
    exec i u = mapNext f (exec i s) := by
  by_cases hs : Stops i s
  · exact exec_of_stops_of_stops hs (hstops.mpr hs) f
  · rw [exec_of_not_stops hs, exec_of_not_stops (mt hstops.mp hs), mapNext, hnext hs]

/-- Settles O42: the evaluator looks neither at the command word nor at the diagnostics, the loop at none of the
words changed. -/
theorem onlyTheLengthOfACommandMatters : Obligations.OnlyTheLengthOfACommandMatters := by
  refine ⟨fun s t u v w hlen hv hw => ?_, fun s w id table => exec_eq_mapNext Iff.rfl fun hs => ?_⟩
  · obtain ⟨-, rfl⟩ := exec_next hv
    obtain ⟨-, rfl⟩ := exec_next hw
    cases he : s.engine with
    | ready =>
      rw [effect_wrCommand_of_ready he, effect_wrCommand_of_ready he, acceptCommand_eq, acceptCommand_eq, hlen]
      rfl
    | busy n =>
      rw [effect_wrCommand_of_busy he, effect_wrCommand_of_busy he]
      rfl
  · obtain ⟨n, hbusy⟩ := busy_of_not_stops_complete hs
    have hu := effect_complete_of_agree (s := s) (u := { s with command := w, csid := id, configTable := table })
      hbusy rfl rfl rfl
    rw [hu, effect_complete_eq hbusy]
    rfl

/-! The bytes the transport answers (R78). -/

/-- The `k`-th response is the `k`-th answer put forward, and past their end the free value. -/
theorem responses_getD {n k : Nat} (hk : k < n) (s : State) :
    (responses n s).getD k 0 = (s.answers[k]?).getD
      (Config.transport (s.xlog ++ ((sentBytes n s.tx).zip (responses n s)).take k)
        ((sentBytes n s.tx).getD k 0)) := by
  induction n generalizing k s with
  | zero => cases hk
  | succ n ih =>
    rw [responses, sentBytes_succ]
    cases k with
    | zero => cases ha : s.answers <;> simp [response, ha]
    | succ k =>
      have hrest := ih (Nat.lt_of_succ_lt_succ hk) (exchangeOne s)
      simpa [List.append_assoc] using hrest

/-- Settles O37: the exchanges of the loop are those of `responses`. -/
theorem transportAnswersInCallOrder : Obligations.TransportAnswersInCallOrder := by
  intro s n hbusy
  refine ⟨responses n s, _, responses_length n s, exec_complete_of_busy hbusy, ?_, fun k hk => ?_⟩
  · simp [exchangeLoop_eq]
  · rw [responses_getD hk]
    cases s.answers[k]? <;> rfl

end Sys2Proof.Machine
end

-- ==== Proofs of the family other: errors, interrupts and the invariant (O7, O8, O48, O51, O53) ====
section
/-! PROOF. Who sets a bit of ERROR_STATUS and of INTR_STATE (60_exceptions.md R221, R232, 10_state.md R48), and the
invariant of 10_state.md R23 over every step. -/

namespace Sys2Proof.Machine

open Sys2Proof.Claims

/-! ERROR_STATUS (R221). -/

theorem effect_wrErrorStatus_errorStatus (v : Word) (s : State) :
    (effect (.wrErrorStatus v) s).errorStatus = clearOnes s.errorStatus v := rfl

theorem bitSet_effect_wrCommand_errorStatus {v : Word} {s : State} {k : Nat}
    (hset : bitSet (effect (.wrCommand v) s).errorStatus k = true) :
    bitSet s.errorStatus k = true ∨ k = s.cfg.layout.errorStatus.cmdbusy ∧ s.engine ≠ .ready := by
  cases he : s.engine with
  | ready => exact .inl (by simpa [effect_wrCommand_of_ready he] using hset)
  | busy n =>
    rw [effect_wrCommand_of_busy he] at hset
    simp only [evaluate_errorStatus, raiseCommandBusy_errorStatus, bitSet_or, bitSet_bitMask, Bool.or_eq_true,
      Bool.and_eq_true, decide_eq_true_eq] at hset
    exact hset.imp_right fun ⟨_, hk⟩ => ⟨hk.symm, by simp⟩

theorem effect_wrCsid (v : Word) (s : State) : effect (.wrCsid v) s =
    evaluate (if v.toNat ≥ s.cfg.numCs then raiseInvalidCsid s else { s with csid := v }) := rfl

theorem effect_wrCsid_of_lt {v : Word} {s : State} (h : v.toNat < s.cfg.numCs) :
    effect (.wrCsid v) s = evaluate { s with csid := v } := by
  rw [effect_wrCsid, if_neg (Nat.not_le.mpr h)]

theorem effect_wrCsid_of_ge {v : Word} {s : State} (h : s.cfg.numCs ≤ v.toNat) :
    effect (.wrCsid v) s = evaluate (raiseInvalidCsid s) := by
  rw [effect_wrCsid, if_pos h]

theorem bitSet_effect_wrCsid_errorStatus {v : Word} {s : State} {k : Nat}
    (hset : bitSet (effect (.wrCsid v) s).errorStatus k = true) :
    bitSet s.errorStatus k = true ∨ k = s.cfg.layout.errorStatus.csidinval ∧ s.cfg.numCs ≤ v.toNat := by
  rcases Nat.lt_or_ge v.toNat s.cfg.numCs with hlt | hge
  · exact .inl (by simpa [effect_wrCsid_of_lt hlt] using hset)
  · rw [effect_wrCsid_of_ge hge] at hset
    simp only [evaluate_errorStatus, raiseInvalidCsid_errorStatus, bitSet_or, bitSet_bitMask, Bool.or_eq_true,
      Bool.and_eq_true, decide_eq_true_eq] at hset
    exact hset.imp_right fun ⟨_, hk⟩ => ⟨hk.symm, hge⟩

/-- Where a bit of ERROR_STATUS after an operation comes from. -/
theorem bitSet_errorStatus_of_effect {i : Instr} {s : State} {k : Nat}
    (hset : bitSet (effect i s).errorStatus k = true) :
    bitSet s.errorStatus k = true ∨
    (k = s.cfg.layout.errorStatus.cmdbusy ∧ Writes .command i ∧ s.engine ≠ .ready) ∨
    (k = s.cfg.layout.errorStatus.csidinval ∧ ∃ v, i = .wrCsid v ∧ s.cfg.numCs ≤ v.toNat) := by
  by_cases hr : i = .reset
  · subst hr; exact absurd ((bitSet_zero k).symm.trans hset) (by decide)
  by_cases hes : Writes .errorStatus i
  · obtain ⟨v, rfl : i = .wrErrorStatus v⟩ := hes
    rw [effect_wrErrorStatus_errorStatus, bitSet_clearOnes, Bool.and_eq_true] at hset
    exact .inl hset.1
  by_cases hcmd : Writes .command i
  · obtain ⟨v, rfl : i = .wrCommand v⟩ := hcmd
    exact (bitSet_effect_wrCommand_errorStatus hset).imp_right fun ⟨hk, hb⟩ => .inl ⟨hk, ⟨v, rfl⟩, hb⟩
  by_cases hcs : Writes .csid i
  · obtain ⟨v, rfl : i = .wrCsid v⟩ := hcs
    exact (bitSet_effect_wrCsid_errorStatus hset).imp_right fun ⟨hk, hge⟩ => .inr ⟨hk, v, rfl, hge⟩
  · obtain ⟨-, -, -, -, -, -, -, -, -, hframe, -⟩ := effect_registers_frame hr s
    exact .inl (hframe hes hcmd hcs ▸ hset)

/-- Settles O48: a bit that is new after the operation is one of the two that are raised. -/
theorem onlyBusyAndInvalidCsidSetErrorBits : Obligations.OnlyBusyAndInvalidCsidSetErrorBits := by
  intro i s t k h hclear hset
  obtain ⟨-, rfl⟩ := exec_next h
  exact (bitSet_errorStatus_of_effect hset).resolve_left (Bool.not_eq_true _ ▸ hclear)

/-! The evaluator runs twice (R230). -/

theorem flagWord_of_ge (b : Bool) {i : Nat} (h : 32 ≤ i) : flagWord b i = 0#32 :=
  word_ext fun k _ => by simp [Nat.not_lt.mpr h]

/-- A line whose bit fits the word does not fire again: either it fired, and its bit is latched, or what kept it
from firing still does. -/
theorem errorFires_evaluate {s : State} (h : s.cfg.layout.intrState.error < 32) :
    errorFires (evaluate s) = false := by
  cases hf : errorFires s with
  | true =>
    have hlatched : bitSet (evaluate s).intrState s.cfg.layout.intrState.error = true := by
      simp [bitSet_evaluate, hf, h]
    simp [errorFires, hlatched]
  | false => simp_all [errorFires, bitSet_evaluate]

theorem eventFires_evaluate {s : State} (h : s.cfg.layout.intrState.spiEvent < 32) :
    eventFires (evaluate s) = false := by
  cases hf : eventFires s with
  | true =>
    have hlatched : bitSet (evaluate s).intrState s.cfg.layout.intrState.spiEvent = true := by
      simp [bitSet_evaluate, hf, h]
    simp [eventFires, hlatched]
  | false => simp_all [eventFires, bitSet_evaluate]

theorem evaluate_evaluate (s : State) : evaluate (evaluate s) = evaluate s := by
  have herr : flagWord (errorFires (evaluate s)) s.cfg.layout.intrState.error = 0#32 := by
    rcases Nat.lt_or_ge s.cfg.layout.intrState.error 32 with h | h
    · rw [errorFires_evaluate h]; rfl
    · exact flagWord_of_ge _ h
  have hevt : flagWord (eventFires (evaluate s)) s.cfg.layout.intrState.spiEvent = 0#32 := by
    rcases Nat.lt_or_ge s.cfg.layout.intrState.spiEvent 32 with h | h
    · rw [eventFires_evaluate h]; rfl
    · exact flagWord_of_ge _ h
  rw [evaluate, evaluate_cfg, herr, hevt, BitVec.or_zero, BitVec.or_zero]
  rfl

theorem intrState_bits_lt {c : Config} (h : c.wf = true) :
    c.layout.intrState.error < 32 ∧ c.layout.intrState.spiEvent < 32 := by
  obtain ⟨hwf, -, -⟩ := fieldsWf_of_wf h
  have hfits : ∀ f ∈ c.layout.intrState.fields, f.lsb + f.width ≤ 32 := fun f hf => (fits_of_fieldsWf hwf hf).2
  simpa [IntrLayout.fields, oneBit, Nat.succ_le_iff] using hfits

/-! INTR_STATE (R232). -/

/-- An operation that does not evaluate sets no bit of INTR_STATE. -/
theorem bitSet_intrState_of_effect {i : Instr} {s : State} {k : Nat} (he : evaluates i = false)
    (hset : bitSet (effect i s).intrState k = true) : bitSet s.intrState k = true := by
  by_cases hr : i = .reset
  · subst hr; exact absurd ((bitSet_zero k).symm.trans hset) (by decide)
  by_cases hw : Writes .intrState i
  · obtain ⟨v, rfl : i = .wrIntrState v⟩ := hw
    simp only [effect, acknowledge_intrState, bitSet_clearOnes, Bool.and_eq_true] at hset
    exact hset.1
  · obtain ⟨hframe, -⟩ := effect_registers_frame hr s
    exact hframe hw he ▸ hset

theorem bitSet_evaluate_error_of_cause {u : State} (h : u.cfg.wf = true)
    (hen : bitSet u.intrEnable u.cfg.layout.intrEnable.error = true) (hcause : errCause u = true) :
    bitSet (evaluate u).intrState u.cfg.layout.intrState.error = true := by
  simp [bitSet_evaluate_error h (intrState_bits_lt h).1, hen, hcause]

theorem bitSet_evaluate_spiEvent_of_cause {u : State} (h : u.cfg.wf = true)
    (hen : bitSet u.intrEnable u.cfg.layout.intrEnable.spiEvent = true) (hcause : evtCause u = true) :
    bitSet (evaluate u).intrState u.cfg.layout.intrState.spiEvent = true := by
  simp [bitSet_evaluate_spiEvent h (intrState_bits_lt h).2, hen, hcause]

/-- Settles O51: an evaluating operation ends in `evaluate`, after which a second evaluation changes nothing. -/
theorem onlyListedOperationsEvaluate : Obligations.OnlyListedOperationsEvaluate := by
  intro i s t h
  obtain ⟨hs, rfl⟩ := exec_next h
  refine ⟨fun he => ?_, fun he k hset => bitSet_intrState_of_effect he hset⟩
  obtain ⟨u, hu, hcfg, -⟩ := effect_of_evaluates hs he
  rw [hu, ← hcfg]
  exact ⟨congrArg (fun x => { x with reply := replyOf i s }) (evaluate_evaluate u),
    bitSet_evaluate_error_of_cause, bitSet_evaluate_spiEvent_of_cause⟩

/-- A bit that an operation latched was latched by its evaluation. -/
theorem exists_evaluate_of_latched {i : Instr} {s : State} {k : Nat} (hs : ¬ Stops i s)
    (hold : bitSet s.intrState k = false) (hset : bitSet (effect i s).intrState k = true) :
    ∃ u, effect i s = evaluate u ∧ u.cfg = s.cfg ∧ bitSet u.intrState k = false := by
  cases he : evaluates i with
  | false => exact absurd (hold.symm.trans (bitSet_intrState_of_effect he hset)) (by decide)
  | true =>
    obtain ⟨u, hu, hcfg, hstate⟩ := effect_of_evaluates hs he
    exact ⟨u, hu, hcfg, hstate ▸ hold⟩

theorem errorLine_evaluate {u : State} (h : u.cfg.wf = true)
    (hold : bitSet u.intrState u.cfg.layout.intrState.error = false)
    (hset : bitSet (evaluate u).intrState u.cfg.layout.intrState.error = true) :
    errorLine (evaluate u) = true := by
  have hbit := hset
  rw [bitSet_evaluate_error h (intrState_bits_lt h).1, hold, Bool.false_or, Bool.and_eq_true] at hbit
  simp [errorLine, hset, hbit]

theorem eventLine_evaluate {u : State} (h : u.cfg.wf = true)
    (hold : bitSet u.intrState u.cfg.layout.intrState.spiEvent = false)
    (hset : bitSet (evaluate u).intrState u.cfg.layout.intrState.spiEvent = true) :
    eventLine (evaluate u) = true := by
  have hbit := hset
  rw [bitSet_evaluate_spiEvent h (intrState_bits_lt h).2, hold, Bool.false_or, Bool.and_eq_true] at hbit
  simp [eventLine, hset, hbit]

/-- Settles O53: the evaluation that latches the bit found its line enabled. -/
theorem firingMakesTheLineActive : Obligations.FiringMakesTheLineActive := by
  refine ⟨fun i s t hwf h => ?_, fun s t h => ?_⟩
  · obtain ⟨hs, rfl⟩ := exec_next h
    refine ⟨fun hold hset => ?_, fun hold hset => ?_⟩
    · obtain ⟨u, hu, hcfg, hold⟩ := exists_evaluate_of_latched hs hold hset
      rw [hu, ← hcfg] at hset
      rw [hu]
      exact errorLine_evaluate (hcfg ▸ hwf) (hcfg ▸ hold) hset
    · obtain ⟨u, hu, hcfg, hold⟩ := exists_evaluate_of_latched hs hold hset
      rw [hu, ← hcfg] at hset
      rw [hu]
      exact eventLine_evaluate (hcfg ▸ hwf) (hcfg ▸ hold) hset
  · obtain ⟨-, rfl⟩ := exec_next h
    simp [errorLine, eventLine, effect, State.resetOf]

/-! The invariant (R23). -/

theorem numCs_caps_pos {c : Config} (h : c.wf = true) : 1 ≤ c.numCs ∧ 1 ≤ c.txCap ∧ 1 ≤ c.rxCap := by
  simp only [Config.wf, Config.numCsOk, Config.capsOk, Bool.and_eq_true, decide_eq_true_eq] at h
  obtain ⟨⟨⟨⟨⟨hcs, -⟩, htx, hrx⟩, -⟩, -⟩, -⟩ := h
  exact ⟨hcs, htx, hrx⟩

theorem stateInv_resetOf {c : Config} (h : c.wf = true) : StateInv (State.resetOf c) where
  config := h
  csid := (numCs_caps_pos h).1
  table := List.length_replicate
  tx := Nat.zero_le _
  rx := Nat.zero_le _
  intrState := BitVec.zero_and
  errorStatus := BitVec.zero_and
  segment := nofun

/-- Settles O7: the default configuration is a well-formed one. -/
theorem resetStateMeetsTheInvariant : Obligations.ResetStateMeetsTheInvariant :=
  ⟨stateInv_resetOf (by decide), fun _ => stateInv_resetOf⟩

/-- The converse of `eq_or_eq_of_bitSet_of_masked`. -/
theorem masked_of_bitSet {a : Word} {i j : Nat} (h : ∀ k, bitSet a k = true → k = i ∨ k = j) :
    a &&& ~~~(bitMask i ||| bitMask j) = 0 := by
  refine word_ext fun k hk => ?_
  change bitSet (clearOnes a _) k = bitSet 0#32 k
  by_cases hbit : bitSet a k = true
  · rcases h k hbit with rfl | rfl <;> simp [bitSet_bitMask, hk]
  · simp [hbit]

theorem effect_csid_lt {s : State} (i : Instr) (hinv : StateInv s) :
    (effect i s).csid.toNat < s.cfg.numCs := by
  by_cases hr : i = .reset
  · subst hr; exact (numCs_caps_pos hinv.config).1
  by_cases hw : Writes .csid i
  · obtain ⟨v, rfl : i = .wrCsid v⟩ := hw
    rcases Nat.lt_or_ge v.toNat s.cfg.numCs with hlt | hge
    · rw [effect_wrCsid_of_lt hlt]; exact hlt
    · rw [effect_wrCsid_of_ge hge]; exact hinv.csid
  · obtain ⟨-, -, -, -, -, -, hframe, -⟩ := effect_registers_frame hr s
    rw [hframe hw]; exact hinv.csid

theorem effect_configTable_length {s : State} (i : Instr) (hinv : StateInv s) :
    (effect i s).configTable.length = s.cfg.numCs := by
  by_cases hr : i = .reset
  · subst hr; exact List.length_replicate
  by_cases hw : Writes .configopts i
  · obtain ⟨v, rfl : i = .wrConfigopts v⟩ := hw
    exact List.length_set.trans hinv.table
  · obtain ⟨-, -, -, -, -, hframe, -⟩ := effect_registers_frame hr s
    rw [hframe hw]; exact hinv.table

theorem effect_intrState_bits {i : Instr} {s : State} (hs : ¬ Stops i s) (hinv : StateInv s) (k : Nat)
    (hset : bitSet (effect i s).intrState k = true) :
    k = s.cfg.layout.intrState.error ∨ k = s.cfg.layout.intrState.spiEvent := by
  by_contra! hne
  obtain ⟨herr, hevt⟩ := hne
  have hold : bitSet s.intrState k = true := by
    cases he : evaluates i with
    | false => exact bitSet_intrState_of_effect he hset
    | true =>
      obtain ⟨u, hu, hcfg, hstate⟩ := effect_of_evaluates hs he
      rwa [hu, bitSet_evaluate_of_ne (hcfg ▸ herr) (hcfg ▸ hevt), hstate] at hset
  exact (eq_or_eq_of_bitSet_of_masked hinv.intrState hold).elim herr hevt

theorem effect_errorStatus_bits {s : State} (i : Instr) (hinv : StateInv s) (k : Nat)
    (hset : bitSet (effect i s).errorStatus k = true) :
    k = s.cfg.layout.errorStatus.cmdbusy ∨ k = s.cfg.layout.errorStatus.csidinval := by
  rcases bitSet_errorStatus_of_effect hset with hold | ⟨hk, -⟩ | ⟨hk, -⟩
  · exact eq_or_eq_of_bitSet_of_masked hinv.errorStatus hold
  · exact .inl hk
  · exact .inr hk

theorem nextEngine_of_other {i : Instr} (s : State) (hw : ¬ Writes .command i) (hc : i ≠ .complete)
    (hr : i ≠ .reset) : nextEngine i s = s.engine := by
  cases i
  case wrCommand v => exact absurd ⟨v, rfl⟩ hw
  case complete => exact absurd rfl hc
  case reset => exact absurd rfl hr
  all_goals rfl

/-- R46 (b): a length is latched together with the word it is LEN of. -/
theorem effect_segment {i : Instr} {s : State} (hs : ¬ Stops i s) (hinv : StateInv s) (n : Nat)
    (hbusy : (effect i s).engine = .busy n) : n = segmentLength s.cfg (effect i s).command := by
  by_cases hr : i = .reset
  · subst hr; cases hbusy
  by_cases hc : i = .complete
  · subst hc; rw [effect_engine hs] at hbusy; cases hbusy
  by_cases hw : Writes .command i
  · obtain ⟨v, rfl : i = .wrCommand v⟩ := hw
    cases he : s.engine with
    | ready => simpa [effect_wrCommand_of_ready he] using hbusy.symm
    | busy m =>
      have hseg := hinv.segment m he
      simp only [effect_wrCommand_of_busy he, evaluate_engine, raiseCommandBusy_engine, he,
        Engine.busy.injEq] at hbusy
      simpa [effect_wrCommand_of_busy he, ← hbusy] using hseg
  · obtain ⟨-, -, -, -, -, -, -, hframe, -⟩ := effect_registers_frame hr s
    rw [effect_engine hs, nextEngine_of_other s hw hc hr] at hbusy
    rw [hframe hw]; exact hinv.segment n hbusy

theorem stateInv_effect {i : Instr} {s : State} (hs : ¬ Stops i s) (hinv : StateInv s) :
    StateInv (effect i s) where
  config := by rw [effect_cfg]; exact hinv.config
  csid := by rw [effect_cfg]; exact effect_csid_lt i hinv
  table := by rw [effect_cfg]; exact effect_configTable_length i hinv
  tx := by rw [effect_cfg]; exact effect_tx_length_le hs hinv.tx
  rx := by rw [effect_cfg]; exact effect_rx_length_le hs hinv.rx
  intrState := by rw [intrStateOk, effect_cfg]; exact masked_of_bitSet (effect_intrState_bits hs hinv)
  errorStatus := by rw [errorStatusOk, effect_cfg]; exact masked_of_bitSet (effect_errorStatus_bits i hinv)
  segment := by rw [effect_cfg]; exact effect_segment hs hinv

theorem stateInv_exec {i : Instr} {s t : State} (hinv : StateInv s) (h : exec i s = .next t) : StateInv t := by
  obtain ⟨hs, rfl⟩ := exec_next h
  exact { stateInv_effect hs hinv with }

/-- Settles O8: a step is an operation or nothing, and an operation keeps each clause of the invariant. -/
theorem everyStepKeepsTheInvariant : Obligations.EveryStepKeepsTheInvariant := by
  intro s t hinv h
  rcases step_next h with ⟨r, rest, i, -, -, hexec⟩ | ⟨n, -, -, hexec⟩ | ⟨-, -, rfl⟩
  · have hinv' : StateInv { s with inbox := rest } := { hinv with }
    exact stateInv_exec hinv' hexec
  · exact stateInv_exec hinv hexec
  · exact hinv

end Sys2Proof.Machine
end

-- ==== Proofs of the family other: the step and its totality (O5, O6, O9, O11) ====
section
/-! PROOF. Which operation a step runs, and that it completes (20_memory.md R84, 40_register_access.md R121,
70_reset_and_hazards.md R287). -/

namespace Sys2Proof.Machine

open Sys2Proof.Claims

/-! The step by what `fetch` finds. -/

theorem step_of_undecodable {s : State} {r : Request} {rest : List Request} {e : DecodeError}
    (hbox : s.inbox = r :: rest) (hdec : decode s.cfg r = .error e) : step s = .refused .undecodable := by
  simp [step, fetch, hbox, hdec]

theorem step_of_pending {s : State} {n : Nat} (hbox : s.inbox = []) (hbusy : s.engine = .busy n) :
    step s = exec .complete s := by
  simp [step, fetch, hbox, hbusy]

theorem step_of_idle {s : State} (hbox : s.inbox = []) (hready : s.engine = .ready) : step s = .next s := by
  simp [step, fetch, hbox, hready]

/-- Settles O5: the four cases of `fetch`. -/
theorem stepRunsTheDecodedOperation : Obligations.StepRunsTheDecodedOperation :=
  fun _ => ⟨fun _ _ _ => step_of_inbox, fun _ _ _ => step_of_undecodable, fun _ => step_of_pending, step_of_idle⟩

/-! A placed request (log entry 12). -/

theorem decode_of_decodeTableWord {nbits w : Nat} {i : Instr} (h : decodeTableWord nbits w = some i) :
    decode defaultConfig (requestOfTableWord nbits w) = .ok i := by
  unfold decodeTableWord at h
  split at h
  next j hd => rw [hd, Option.some.inj h]
  next => cases h

theorem place_of_complete_of_ready {r : Request} {s : State} (hdec : decode s.cfg r = .ok .complete)
    (hready : s.engine = .ready) : place r s =
      { s with inbox := r :: s.inbox, engine := .busy (segmentLength s.cfg s.command) } := by
  simp [place, hdec, hready]

theorem place_of_other {r : Request} {s : State} {i : Instr} (hdec : decode s.cfg r = .ok i)
    (h : i ≠ .complete ∨ s.engine ≠ .ready) : place r s = { s with inbox := r :: s.inbox } := by
  unfold place
  split
  next hd hready =>
    obtain rfl : Instr.complete = i := Except.ok.inj (hd.symm.trans hdec)
    exact absurd hready (h.resolve_left (· rfl))
  next => rfl

/-- Settles O6: the placed request is the head of the inbox. -/
theorem placedWordIsRunByTheNextStep : Obligations.PlacedWordIsRunByTheNextStep := by
  intro s nbits w i hcfg hw
  have hdec : decode s.cfg (requestOfTableWord nbits w) = .ok i := hcfg ▸ decode_of_decodeTableWord hw
  refine ⟨fun h => ?_, fun hi hready => ?_⟩
  · rw [State.withFetchWord, place_of_other hdec h]
    exact step_of_inbox rfl hdec
  · subst hi
    rw [State.withFetchWord, place_of_complete_of_ready hdec hready]
    exact step_of_inbox rfl hdec

/-! Totality (R287). -/

theorem exec_next_of_enabled {i : Instr} {s : State} (hinv : StateInv s) (hi : Enabled i s) :
    ∃ t, exec i s = .next t :=
  ⟨_, exec_of_not_stops (not_stops_of_enabled hinv hi)⟩

/-- An operation that is not enabled is a COMPLETE while READY, which is refused and does not fault. -/
theorem exec_ne_fault {i : Instr} {s : State} (hinv : StateInv s) (f : Fault) : exec i s ≠ .fault f := by
  by_cases hi : Enabled i s
  · obtain ⟨t, ht⟩ := exec_next_of_enabled hinv hi
    simp [ht]
  · obtain ⟨rfl, hbusy⟩ := Classical.not_imp.mp hi
    cases he : s.engine with
    | ready => simp [exec_complete_of_ready he]
    | busy n => exact absurd ⟨n, he⟩ hbusy

theorem step_ne_fault {s : State} (hinv : StateInv s) (f : Fault) : step s ≠ .fault f := by
  cases hbox : s.inbox with
  | cons r rest =>
    cases hdec : decode s.cfg r with
    | ok i =>
      rw [step_of_inbox hbox hdec]
      have hinv' : StateInv { s with inbox := rest } := { hinv with }
      exact exec_ne_fault hinv' f
    | error e => simp [step_of_undecodable hbox hdec]
  | nil =>
    cases he : s.engine with
    | busy n => rw [step_of_pending hbox he]; exact exec_ne_fault hinv f
    | ready => simp [step_of_idle hbox he]

/-- Settles O9: taking the head off the inbox keeps the invariant, so what `exec` does there `step` does. -/
theorem enabledOperationsAlwaysComplete : Obligations.EnabledOperationsAlwaysComplete := by
  refine fun s hinv => ⟨fun i => exec_next_of_enabled hinv, step_ne_fault hinv, fun r rest i hbox hdec hi => ?_⟩
  have hinv' : StateInv { s with inbox := rest } := { hinv with }
  rw [step_of_inbox hbox hdec]
  exact exec_next_of_enabled hinv' hi

/-! The fifteen writes (R121). -/

theorem enabled_of_isWrite {i : Instr} (s : State) (h : isWrite i = true) : Enabled i s := by
  rintro rfl; cases h

theorem isWrite_write (r : Reg) (v : Word) : isWrite (.write r v) = true := by
  cases r <;> rfl

/-- A bus access with `we` 1 is a write, of a register or of a bad offset. -/
theorem isWrite_decodeBus (c : Config) (off v : Word) : isWrite (decodeBus c true off v) = true := by
  unfold decodeBus
  cases regAt c off with
  | some r => exact isWrite_write r v
  | none => rfl

theorem replyOf_of_isWrite {i : Instr} (s : State) (h : isWrite i = true) : replyOf i s = none := by
  cases i <;> cases h <;> rfl

/-- Settles O11: a write never stops under the invariant, and has no reply. -/
theorem everyBusWriteCompletesWithoutReply : Obligations.EveryBusWriteCompletesWithoutReply := by
  intro s off v rest hinv hbox
  have hdec := decode_writeCode s.cfg off v
  have hwrite := isWrite_decodeBus s.cfg off v
  have hinv' : StateInv { s with inbox := rest } := { hinv with }
  have hexec := exec_of_not_stops (not_stops_of_enabled hinv' (enabled_of_isWrite _ hwrite))
  exact ⟨_, _, hdec, hwrite, hexec, (step_of_inbox hbox hdec).trans hexec, replyOf_of_isWrite _ hwrite⟩

end Sys2Proof.Machine
end

-- ==== Proofs of the family other: STATUS (O16, O17, O18) ====
section
/-! PROOF. The derived STATUS word, field by field and as one number (10_state.md R30, R36, R38). -/

namespace Sys2Proof.Machine

open Sys2Proof.Claims

/-! Where the live fields of STATUS lie. -/

/-- The bits of the live flags. -/
def statusFlags (l : StatusLayout) : List Nat := [l.rxempty, l.rxfull, l.txempty, l.txfull, l.ready]

theorem status_qd_fit {c : Config} (h : c.wf = true) :
    c.layout.status.txqd.lsb + c.layout.status.txqd.width ≤ 32 ∧
    c.layout.status.rxqd.lsb + c.layout.status.rxqd.width ≤ 32 := by
  obtain ⟨-, hwf, -⟩ := fieldsWf_of_wf h
  exact ⟨(fits_of_fieldsWf hwf (f := c.layout.status.txqd) (by simp [StatusLayout.fields])).2,
    (fits_of_fieldsWf hwf (f := c.layout.status.rxqd) (by simp [StatusLayout.fields])).2⟩

theorem status_qd_disjoint {c : Config} (h : c.wf = true) :
    c.layout.status.txqd.lsb + c.layout.status.txqd.width ≤ c.layout.status.rxqd.lsb ∨
    c.layout.status.rxqd.lsb + c.layout.status.rxqd.width ≤ c.layout.status.txqd.lsb := by
  obtain ⟨-, hwf, -⟩ := fieldsWf_of_wf h
  have hdisj := pairwise_disjoint_of_fieldsWf hwf
  simp only [StatusLayout.fields, List.pairwise_cons, List.forall_mem_cons] at hdisj
  exact hdisj.1.1

theorem status_qd_disjoint_flags {c : Config} (h : c.wf = true) {i : Nat} (hi : i ∈ statusFlags c.layout.status) :
    (c.layout.status.txqd.lsb + c.layout.status.txqd.width ≤ i ∨ i < c.layout.status.txqd.lsb) ∧
    (c.layout.status.rxqd.lsb + c.layout.status.rxqd.width ≤ i ∨ i < c.layout.status.rxqd.lsb) := by
  obtain ⟨-, hwf, -⟩ := fieldsWf_of_wf h
  have hdisj := pairwise_disjoint_of_fieldsWf hwf
  simp only [StatusLayout.fields, List.pairwise_cons, List.forall_mem_cons, oneBit, Nat.succ_le_iff] at hdisj
  simp only [statusFlags, List.mem_cons, List.not_mem_nil, or_false] at hi
  rcases hi with rfl | rfl | rfl | rfl | rfl <;> simp only [hdisj, and_self]

/-! The occupancies. -/

theorem fieldVal_eq {f : Field} {v : Word} {n : Nat} (hn : n < 2 ^ f.width)
    (h : ∀ k < f.width, bitSet v (f.lsb + k) = n.testBit k) : fieldVal f v = n := by
  refine Nat.eq_of_testBit_eq fun k => ?_
  rw [fieldVal, BitVec.testBit_toNat, BitVec.getLsbD_extractLsb']
  by_cases hk : k < f.width
  · rw [decide_eq_true hk, Bool.true_and]; exact h k hk
  · have hz : n.testBit k = false :=
      Nat.testBit_lt_two_pow (hn.trans_le (Nat.pow_le_pow_right (by decide) (Nat.le_of_not_lt hk)))
    simp [hk, hz]

/-- Outside the flags of STATUS only the occupancies are live. -/
theorem bitSet_statusWord_of_not_flag {s : State} (h : s.cfg.wf = true) {k : Nat}
    (hk : ∀ i ∈ statusFlags s.cfg.layout.status, i ≠ k) :
    bitSet (statusWord s) k =
      ((decide (s.cfg.layout.status.txqd.lsb ≤ k) &&
          decide (k < s.cfg.layout.status.txqd.lsb + s.cfg.layout.status.txqd.width) &&
          (statusTxqd s).testBit (k - s.cfg.layout.status.txqd.lsb)) ||
       (decide (s.cfg.layout.status.rxqd.lsb ≤ k) &&
          decide (k < s.cfg.layout.status.rxqd.lsb + s.cfg.layout.status.rxqd.width) &&
          (statusRxqd s).testBit (k - s.cfg.layout.status.rxqd.lsb))) := by
  obtain ⟨htx, hrx⟩ := status_qd_fit h
  simp only [statusFlags, List.forall_mem_cons] at hk
  simp [bitSet_statusWord htx hrx, hk]

theorem not_in_field {l w k : Nat} (h : k < l ∨ l + w ≤ k) : (decide (l ≤ k) && decide (k < l + w)) = false := by
  simp only [Bool.and_eq_false_iff, decide_eq_false_iff_not]; omega

theorem fieldVal_txqd {s : State} (h : s.cfg.wf = true) :
    fieldVal s.cfg.layout.status.txqd (statusWord s) = statusTxqd s := by
  refine fieldVal_eq (statusTxqd_lt s) fun k hk => ?_
  rw [bitSet_statusWord_of_not_flag h fun i hi => by have := (status_qd_disjoint_flags h hi).1; omega,
    not_in_field (l := s.cfg.layout.status.rxqd.lsb) (by have := status_qd_disjoint h; omega)]
  simp [hk]

theorem fieldVal_rxqd {s : State} (h : s.cfg.wf = true) :
    fieldVal s.cfg.layout.status.rxqd (statusWord s) = statusRxqd s := by
  refine fieldVal_eq (statusRxqd_lt s) fun k hk => ?_
  rw [bitSet_statusWord_of_not_flag h fun i hi => by have := (status_qd_disjoint_flags h hi).2; omega,
    not_in_field (l := s.cfg.layout.status.txqd.lsb) (by have := status_qd_disjoint h; omega)]
  simp [hk]

/-! STATUS as one number: its fields under the default layout, from bit 0 upwards. -/

theorem toNat_fieldWord {f : Field} {n : Nat} (hf : f.lsb + f.width ≤ 32) (hn : n < 2 ^ f.width) :
    (fieldWord f n).toNat = n * 2 ^ f.lsb := by
  have hlt : n * 2 ^ f.lsb < 2 ^ 32 := calc
    n * 2 ^ f.lsb < 2 ^ f.width * 2 ^ f.lsb := Nat.mul_lt_mul_of_pos_right hn (Nat.two_pow_pos _)
    _ = 2 ^ (f.lsb + f.width) := by rw [← Nat.pow_add, Nat.add_comm]
    _ ≤ 2 ^ 32 := Nat.pow_le_pow_right (by decide) hf
  have hn32 : n < 2 ^ 32 := (Nat.le_mul_of_pos_right n (Nat.two_pow_pos _)).trans_lt hlt
  rw [fieldWord, BitVec.toNat_shiftLeft, BitVec.toNat_ofNat, Nat.mod_eq_of_lt hn32, Nat.shiftLeft_eq,
    Nat.mod_eq_of_lt hlt]

/-- Or with a word that lies above adds it. -/
theorem toNat_or_above {a b : Word} {i m : Nat} (ha : a.toNat < 2 ^ i) (hb : b.toNat = m * 2 ^ i) :
    (a ||| b).toNat = a.toNat + b.toNat := by
  rw [BitVec.toNat_or, hb, Nat.mul_comm, Nat.or_comm, ← Nat.two_pow_add_eq_or_of_lt ha, Nat.add_comm]

theorem toNat_flagWord {i : Nat} (hi : i < 32) (b : Bool) : (flagWord b i).toNat = b.toNat * 2 ^ i := by
  have hlt : 2 ^ i < 2 ^ 32 := Nat.pow_lt_pow_right (by decide) hi
  cases b
  · simp [flagWord]
  · rw [flagWord, if_pos rfl, bitMask, BitVec.toNat_twoPow, Nat.mod_eq_of_lt hlt, Bool.toNat_true, Nat.one_mul]

/-- A flag above a word adds its bit, and leaves the word below any higher bit `j`. -/
theorem toNat_or_flagWord {a : Word} {i j : Nat} (hij : i < j) (hj : j ≤ 32) (ha : a.toNat < 2 ^ i) (b : Bool) :
    (a ||| flagWord b i).toNat = a.toNat + (if b then 2 ^ i else 0) ∧ (a ||| flagWord b i).toNat < 2 ^ j := by
  have hb := toNat_flagWord (hij.trans_le hj) b
  have hpow : 2 ^ i + 2 ^ i ≤ 2 ^ j := by
    rw [← Nat.two_mul, ← Nat.pow_succ']; exact Nat.pow_le_pow_right (by decide) hij
  rw [toNat_or_above ha hb, hb]
  cases b
  · simp only [Bool.toNat_false, Nat.zero_mul, Bool.false_eq_true, if_false, true_and]; omega
  · simp only [Bool.toNat_true, Nat.one_mul, if_true, true_and]; omega

theorem statusWord_toNat {s : State} (hlay : s.cfg.layout = defaultLayout) :
    (statusWord s).toNat =
      statusTxqd s + statusRxqd s * 2 ^ 8 +
      (if statusRxempty s then 2 ^ 24 else 0) + (if statusRxfull s then 2 ^ 25 else 0) +
      (if statusTxempty s then 2 ^ 28 else 0) + (if statusTxfull s then 2 ^ 29 else 0) +
      (if statusReady s then 2 ^ 31 else 0) := by
  have htx : statusTxqd s < 2 ^ 8 := by have h := statusTxqd_lt s; rw [hlay] at h; exact h
  have hrx : statusRxqd s < 2 ^ 8 := by have h := statusRxqd_lt s; rw [hlay] at h; exact h
  have hlow : (fieldWord ⟨0, 8⟩ (statusTxqd s)).toNat = statusTxqd s :=
    (toNat_fieldWord (by decide) htx).trans (Nat.mul_one _)
  have hhigh : (fieldWord ⟨8, 8⟩ (statusRxqd s)).toNat = statusRxqd s * 2 ^ 8 :=
    toNat_fieldWord (by decide) hrx
  have hqd := toNat_or_above (hlow.trans_lt htx) hhigh
  rw [hlow, hhigh] at hqd
  obtain ⟨hrxempty, h25⟩ := toNat_or_flagWord (i := 24) (j := 25) (by decide) (by decide) (hqd.trans_lt (by omega))
    (statusRxempty s)
  obtain ⟨hrxfull, h28⟩ := toNat_or_flagWord (j := 28) (by decide) (by decide) h25 (statusRxfull s)
  obtain ⟨htxempty, h29⟩ := toNat_or_flagWord (j := 29) (by decide) (by decide) h28 (statusTxempty s)
  obtain ⟨htxfull, h31⟩ := toNat_or_flagWord (j := 31) (by decide) (by decide) h29 (statusTxfull s)
  obtain ⟨hready, -⟩ := toNat_or_flagWord (j := 32) (by decide) (by decide) h31 (statusReady s)
  simp only [statusWord, hlay, defaultLayout]
  rw [hready, htxfull, htxempty, hrxfull, hrxempty, hqd]

/-- Settles O17: the occupancies bit by bit, READY as a cause input, and the number by its parts. -/
theorem statusWordMirrorsQueuesAndEngine : Obligations.StatusWordMirrorsQueuesAndEngine := by
  intro s h
  refine ⟨fieldVal_txqd h, fieldVal_rxqd h, ?ready, fun k _ htx hrx h1 h2 h3 h4 h5 => ?dead, fun hlay => ?number⟩
  case ready =>
    obtain ⟨hready, -, -⟩ := bitSet_statusWord_causes h
    rw [hready, statusReady, decide_eq_true_eq]
  case dead =>
    have hk : ∀ i ∈ statusFlags s.cfg.layout.status, i ≠ k := by
      simp [statusFlags, h1.symm, h2.symm, h3.symm, h4.symm, h5.symm]
    simp only [bitSet_statusWord_of_not_flag h hk, not_in_field htx, not_in_field hrx, Bool.false_and, Bool.or_self]
  case number =>
    rw [statusWord_toNat hlay]
    simp only [statusTxqd, statusRxqd, qd, statusRxempty, statusRxfull, statusTxempty, statusTxfull, statusReady,
      decide_eq_true_eq, hlay]
    rfl

/-! The flags. -/

/-- The two flags that are no cause inputs, by the argument of `bitSet_statusWord_causes`. -/
theorem bitSet_statusWord_flags {s : State} (h : s.cfg.wf = true) :
    bitSet (statusWord s) s.cfg.layout.status.txfull = statusTxfull s ∧
    bitSet (statusWord s) s.cfg.layout.status.rxempty = statusRxempty s := by
  obtain ⟨-, hwf, -⟩ := fieldsWf_of_wf h
  obtain ⟨htx, hrx⟩ := status_qd_fit h
  have hfits : ∀ f ∈ s.cfg.layout.status.fields, f.lsb + f.width ≤ 32 :=
    fun f hf => (fits_of_fieldsWf hwf hf).2
  have hdisj := pairwise_disjoint_of_fieldsWf hwf
  simp only [StatusLayout.fields, List.forall_mem_cons, oneBit, Nat.succ_le_iff] at hfits
  simp only [StatusLayout.fields, List.pairwise_cons, List.forall_mem_cons, oneBit, oneBit_disjoint_iff,
    field_disjoint_oneBit_iff] at hdisj
  simp [bitSet_statusWord htx hrx, hfits, hdisj]

/-- Settles O18: the four flags are decisions about a length, and no length is 0 and a capacity. -/
theorem emptyAndFullFlagsAreExact : Obligations.EmptyAndFullFlagsAreExact := by
  intro s h
  obtain ⟨-, htxempty, hrxfull⟩ := bitSet_statusWord_causes h
  obtain ⟨htxfull, hrxempty⟩ := bitSet_statusWord_flags h
  obtain ⟨-, htxcap, hrxcap⟩ := numCs_caps_pos h
  rw [htxempty, htxfull, hrxempty, hrxfull, statusTxempty, statusTxfull, statusRxempty, statusRxfull]
  refine ⟨decide_eq_true_iff, decide_eq_true_iff, decide_eq_true_iff, decide_eq_true_iff, ?_, ?_,
    fun hcap hlen => ?_⟩
  · simp only [Bool.and_eq_false_iff, decide_eq_false_iff_not]; omega
  · simp only [Bool.and_eq_false_iff, decide_eq_false_iff_not]; omega
  · rw [← decide_not, decide_eq_decide]; omega

/-- Settles O16: the two words are those of closed states. -/
theorem statusReadReturnsTheDerivedWord : Obligations.StatusReadReturnsTheDerivedWord := by
  refine ⟨fun s v => ⟨fun h => (decode_at_offset h (r := .status) (off := 0x14) rfl v).1,
    exec_of_not_stops (i := .rdStatus) id⟩, by decide, fun t h => ?_⟩
  obtain ⟨-, rfl⟩ := exec_next h
  decide

end Sys2Proof.Machine
end

-- ==== Proofs of the family other: the reads and RXDATA (O15, O19, O20, O29) ====
section
/-! PROOF. What a read returns and that only RD.RXDATA changes anything (20_memory.md R75, 41_fifo_data.md R164). -/

namespace Sys2Proof.Machine

open Sys2Proof.Claims

/-- Settles O15: the three reads answer the literal 0, and their `effect` is the state itself. -/
theorem writeOnlyRegistersReadZero : Obligations.WriteOnlyRegistersReadZero :=
  fun _ => ⟨exec_of_not_stops (i := .rdIntrTest) id, exec_of_not_stops (i := .rdAlertTest) id,
    exec_of_not_stops (i := .rdTxdata) id⟩

/-- Settles O29: the `effect` of RD.BAD is its diagnostic. -/
theorem badOffsetReadReturnsZero : Obligations.BadOffsetReadReturnsZero :=
  fun _ off => exec_of_not_stops (i := .rdBad off) id

/-! The loop of RD.RXDATA (R164). -/

theorem popLanes_snd (k i : Nat) (w : Word) (q : List Byte) : (popLanes k i w q).2 = q.drop k := by
  induction k generalizing i w q with
  | zero => rfl
  | succ k ih =>
    cases q with
    | nil => rfl
    | cons b rest => exact ih (i + 1) _ rest

theorem bitSet_zext_shiftLeft (b : Byte) (i j m : Nat) (hj : 8 * j + m < 32) (hm : m < 8) :
    bitSet (zext b <<< (8 * i)) (8 * j + m) = (decide (i = j) && b.getLsbD m) := by
  simp only [bitSet, zext, BitVec.getLsbD_shiftLeft, BitVec.getLsbD_setWidth]
  rcases Nat.lt_trichotomy i j with h | h | h
  · have hge : 8 ≤ 8 * j + m - 8 * i := by omega
    simp [BitVec.getLsbD_of_ge b _ hge, Nat.ne_of_lt h]
  · subst h
    simp [hj, show m < 32 by omega]
  · simp [show 8 * j + m < 8 * i by omega, Nat.ne_of_gt h]

/-- Lane `j` of the word holds the byte that iteration `j - i` of the loop pops. -/
theorem bitSet_popLanes (k i : Nat) (w : Word) (q : List Byte) (j m : Nat) (hj : 8 * j + m < 32) (hm : m < 8) :
    bitSet (popLanes k i w q).1 (8 * j + m) =
      (bitSet w (8 * j + m) || (decide (i ≤ j ∧ j < i + k) && (q.getD (j - i) 0).getLsbD m)) := by
  induction k generalizing i w q with
  | zero => simp [popLanes, show ¬ (i ≤ j ∧ j < i) by omega]
  | succ k ih =>
    cases q with
    | nil => simp [popLanes]
    | cons b rest =>
      rw [popLanes, pop_cons]
      simp only [ih, bitSet_or, bitSet_zext_shiftLeft b i j m hj hm, Bool.or_assoc]
      rcases Nat.lt_trichotomy i j with h | h | h
      · have hsub : j - i = j - (i + 1) + 1 := by omega
        have hiff : (i + 1 ≤ j ∧ j < i + 1 + k) ↔ (i ≤ j ∧ j < i + (k + 1)) := by omega
        simp only [hsub, List.getD_cons_succ, hiff, decide_eq_false (Nat.ne_of_lt h), Bool.false_and, Bool.false_or]
      · subst h; simp
      · simp [Nat.ne_of_gt h, show ¬ i + 1 ≤ j by omega, show ¬ i ≤ j by omega]

theorem popLanes_lane {k : Nat} (hk : k < rxPop) (q : List Byte) :
    (popLanes rxPop 0 0 q).1.extractLsb' (8 * k) 8 = q.getD k 0 := by
  refine BitVec.eq_of_getLsbD_eq fun m hm => ?_
  rw [rxPop] at hk
  have hbit := bitSet_popLanes rxPop 0 0 q k m (by omega) hm
  simpa [bitSet, rxPop, hk, hm] using hbit

theorem exec_rdRxdata (s : State) : exec .rdRxdata s =
    .next { s with rx := s.rx.drop rxPop, reply := some (popLanes rxPop 0 0 s.rx).1 } := by
  rw [← popLanes_snd]
  exact exec_of_not_stops (i := .rdRxdata) id

/-- Settles O19: the word is the one the loop assembles, lane by lane. -/
theorem receiveReadPopsAndPacksFourBytes : Obligations.ReceiveReadPopsAndPacksFourBytes :=
  fun s => ⟨_, fun _ hk => popLanes_lane hk s.rx, exec_rdRxdata s⟩

/-! Reads without a side effect (R75). -/

theorem effect_of_isRead {i : Instr} (s : State) (h : isRead i = true) (hrx : i ≠ .rdRxdata) :
    effect i s = { s with diags := (effect i s).diags } ∧
    ((∀ off, i ≠ .rdBad off) → (effect i s).diags = s.diags) := by
  cases i <;> cases h
  case rdRxdata => exact absurd rfl hrx
  case rdBad off => exact ⟨rfl, fun hbad => absurd rfl (hbad off)⟩
  all_goals exact ⟨rfl, fun _ => rfl⟩

/-- Five bytes for two reads of four (R75: RD.RXDATA is not idempotent). -/
def fiveReceived : State := { State.reset with rx := [1, 2, 3, 4, 5] }

/-- Settles O20: a second read finds a state that differs in the diagnostics and the last reply only. -/
theorem onlyTheReceiveReadHasASideEffect : Obligations.OnlyTheReceiveReadHasASideEffect := by
  refine ⟨fun i s t u hread hrx h => ?_, fun s t h => ?_, ?_⟩
  · obtain ⟨-, rfl⟩ := exec_next h
    obtain ⟨hkeeps, hdiags⟩ := effect_of_isRead s hread hrx
    refine ⟨by rw [hkeeps], hdiags, fun hu => ?_⟩
    obtain ⟨-, rfl⟩ := exec_next hu
    rw [hkeeps]
    exact replyOf_of_alertTest_diags_reply i s s.alertTest _ _
  · rw [exec_rdRxdata] at h
    cases h
    rfl
  · exact ⟨fiveReceived, _, _, exec_rdRxdata _, exec_rdRxdata _, by decide⟩

end Sys2Proof.Machine
end

-- ==== Proofs of the family other: the writes and the chip-select (O21, O22, O23, O24, O26, O32, O43, O45) ====
section
/-! PROOF. The stores and write-1-to-clear (40_register_access.md), TXDATA (41_fifo_data.md R162) and the
chip-select (43_chip_select.md R200 to R203). -/

namespace Sys2Proof.Machine

open Sys2Proof.Claims

/-! Write-1-to-clear (R142). -/

theorem exec_wrIntrState (v : Word) (s : State) :
    exec (.wrIntrState v) s = .next { s with intrState := clearOnes s.intrState v, reply := none } :=
  exec_of_not_stops (i := .wrIntrState v) id

theorem exec_wrErrorStatus (v : Word) (s : State) :
    exec (.wrErrorStatus v) s = .next { s with errorStatus := clearOnes s.errorStatus v, reply := none } :=
  exec_of_not_stops (i := .wrErrorStatus v) id

/-- Settles O21: a line whose bit is written 1 has lost it. -/
theorem intrStateWriteClearsOnes : Obligations.IntrStateWriteClearsOnes := by
  intro s v
  refine ⟨fun h => (decode_at_offset h (r := .intrState) (off := 0x00) rfl v).2, _, rfl, exec_wrIntrState v s,
    fun hv => ?_, fun hv => ?_⟩
  · change (bitSet (clearOnes s.intrState v) s.cfg.layout.intrState.error && _) = false
    simp [hv]
  · change (bitSet (clearOnes s.intrState v) s.cfg.layout.intrState.spiEvent && _) = false
    simp [hv]

/-- Settles O22: the `effect` of the write is `clearOnes` and no evaluation. -/
theorem errorStatusWriteClearsOnes : Obligations.ErrorStatusWriteClearsOnes :=
  fun s v => ⟨fun h => (decode_at_offset h (r := .errorStatus) (off := 0x30) rfl v).2, exec_wrErrorStatus v s⟩

theorem clearOnes_clearOnes (a v w : Word) : clearOnes (clearOnes a v) w = clearOnes a (v ||| w) :=
  word_ext fun k _ => by simp [Bool.and_assoc]

theorem clearOnes_idem (a v : Word) : clearOnes (clearOnes a v) v = clearOnes a v := by
  rw [clearOnes_clearOnes, BitVec.or_self]

/-- Settles O23: the laws of `clearOnes`. -/
theorem clearingIsBitwiseIdempotentAndCommutative : Obligations.ClearingIsBitwiseIdempotentAndCommutative := by
  intro s v w t h
  rw [exec_wrIntrState] at h
  cases h
  refine ⟨fun k _ => bitSet_clearOnes s.intrState v k, ?_, fun u hu => ?_, fun u e hu he => ?_⟩
  · simp only [exec_wrIntrState, clearOnes_idem]
  · rw [exec_wrIntrState] at hu
    cases hu
    simp only [exec_wrIntrState, clearOnes_clearOnes]
  · rw [exec_wrErrorStatus] at hu
    cases hu
    rw [exec_wrErrorStatus] at he
    cases he
    simp only [exec_wrErrorStatus, clearOnes_clearOnes]

/-! Stores. -/

/-- Settles O24: the lines are read off the stored word. -/
theorem intrEnableWriteStoresAndGatesTheLines : Obligations.IntrEnableWriteStoresAndGatesTheLines :=
  fun _ v => ⟨fun h => (decode_at_offset h (r := .intrEnable) (off := 0x04) rfl v).2, _, rfl,
    exec_of_not_stops (i := .wrIntrEnable v) id, rfl, rfl⟩

/-- Settles O26: `emitIf_eq` writes out the two diagnostics. -/
theorem controlWriteOnlyStores : Obligations.ControlWriteOnlyStores := by
  intro s v
  refine ⟨fun h => (decode_at_offset h (r := .control) (off := 0x10) rfl v).2, ?_⟩
  rw [exec_of_not_stops (i := .wrControl v) id, effect, emitIf_eq, emitIf_eq]
  rfl

/-- Settles O32: `push` by whether the queue is full. -/
theorem transmitWritePushesTheLowByte : Obligations.TransmitWritePushesTheLowByte := by
  intro s v
  have hexec : exec (.wrTxdata v) s =
      .next { evaluate { s with tx := (push s.tx s.cfg.txCap (lowByte v)).2 } with reply := none } :=
    exec_of_not_stops (i := .wrTxdata v) id
  have hlow : lowByte v = v.extractLsb' 0 8 := BitVec.setWidth_eq_extractLsb' (by decide)
  refine ⟨fun h => (decode_at_offset h (r := .txdata) rfl v).2, fun hfull => ?_, fun hroom => ?_⟩
  · rw [hexec, push_of_full hfull]
  · rw [hexec, push_of_not_full hroom, hlow]

/-! The chip-select. -/

theorem exec_wrCsid (v : Word) (s : State) :
    exec (.wrCsid v) s = .next { effect (.wrCsid v) s with reply := none } :=
  exec_of_not_stops (i := .wrCsid v) id

/-- Settles O43: one branch for each side of NUM_CS. -/
theorem csidWriteIsRangeChecked : Obligations.CsidWriteIsRangeChecked := by
  intro s v
  refine ⟨fun h => (decode_at_offset h (r := .csid) (off := 0x1C) rfl v).2, fun hlt => ?_, fun hge => ?_⟩
  · rw [exec_wrCsid, effect_wrCsid_of_lt hlt]
  · rw [exec_wrCsid, effect_wrCsid_of_ge hge]
    rfl

/-- Settles O45: both accesses look the entry up, and there is none. -/
theorem configoptsWithoutEntryFaults : Obligations.ConfigoptsWithoutEntryFaults := by
  intro s v hlen
  constructor
  · simp [exec, execRdConfigopts, List.getElem?_eq_none hlen]
  · simp [exec, execWrConfigopts, Nat.not_lt.mpr hlen]

end Sys2Proof.Machine
end

-- ==== Proofs of the family other: noninterference (O46, O59) ====
section
/-! PROOF. Table entries that CSID does not select, CONTROL and ALERT_TEST influence no operation but those that
name them (43_chip_select.md R204, 10_state.md R28, R29). -/

namespace Sys2Proof.Machine

open Sys2Proof.Claims

/-- The state with CONTROL, ALERT_TEST and the table changed, each by a function of its own. -/
def mapInert (c a : Word → Word) (g : List Word → List Word) (s : State) : State :=
  { s with control := c s.control, alertTest := a s.alertTest, configTable := g s.configTable }

section
variable {i : Instr} {s : State} {c a : Word → Word} {g : List Word → List Word}

theorem stops_mapInert (hlen : (g s.configTable).length = s.configTable.length) :
    Stops i (mapInert c a g s) ↔ Stops i s := by
  cases i
  case rdConfigopts | wrConfigopts => simp only [Stops, mapInert, hlen]
  all_goals exact Iff.rfl

theorem replyOf_mapInert (hcontrol : i = .rdControl → c s.control = s.control)
    (hentry : (g s.configTable)[s.csid.toNat]? = s.configTable[s.csid.toNat]?) :
    replyOf i (mapInert c a g s) = replyOf i s := by
  cases i
  case rdControl => exact congrArg some (hcontrol rfl)
  case rdConfigopts => exact hentry
  all_goals rfl

/-- The change commutes with every operation but RESET that it leaves to write the three fields as before. -/
theorem effect_mapInert (hs : ¬ Stops i s) (hr : i ≠ .reset) (hcontrol : ∀ v, i = .wrControl v → c v = v)
    (halert : ∀ v, i = .wrAlertTest v → a v = v)
    (hentry : ∀ v, (g s.configTable).set s.csid.toNat v = g (s.configTable.set s.csid.toNat v)) :
    effect i (mapInert c a g s) = mapInert c a g (effect i s) := by
  cases i
  case reset => exact absurd rfl hr
  case wrControl v => simp only [effect, emitIf_eq, mapInert, hcontrol v rfl]
  case wrAlertTest v => simp only [effect, emit, mapInert, halert v rfl]
  case wrConfigopts v => simp only [effect, emit, mapInert, hentry]
  case wrEventEnable v => simp only [effect, emitIf_eq]; rfl
  case wrCsid v =>
    rcases Nat.lt_or_ge v.toNat s.cfg.numCs with hlt | hge
    · rw [effect_wrCsid_of_lt hlt, effect_wrCsid_of_lt (s := mapInert c a g s) hlt]; rfl
    · rw [effect_wrCsid_of_ge hge, effect_wrCsid_of_ge (s := mapInert c a g s) hge]; rfl
  case wrCommand v =>
    cases he : s.engine with
    | ready =>
      rw [effect_wrCommand_of_ready he, effect_wrCommand_of_ready (s := mapInert c a g s) he, acceptCommand_eq,
        acceptCommand_eq]
      rfl
    | busy n =>
      rw [effect_wrCommand_of_busy he, effect_wrCommand_of_busy (s := mapInert c a g s) he]
      rfl
  case complete =>
    obtain ⟨n, hbusy⟩ := busy_of_not_stops_complete hs
    rw [effect_complete_of_agree (s := s) (u := mapInert c a g s) hbusy rfl rfl rfl, effect_complete_eq hbusy]
    rfl
  all_goals rfl

theorem exec_mapInert (hr : i ≠ .reset) (hwrite : ∀ v, i = .wrControl v → c v = v)
    (halert : ∀ v, i = .wrAlertTest v → a v = v)
    (hset : ∀ v table, (g table).set s.csid.toNat v = g (table.set s.csid.toNat v))
    (hread : i = .rdControl → c s.control = s.control)
    (hlen : (g s.configTable).length = s.configTable.length)
    (hentry : (g s.configTable)[s.csid.toNat]? = s.configTable[s.csid.toNat]?) :
    exec i (mapInert c a g s) = mapNext (mapInert c a g) (exec i s) := by
  refine exec_eq_mapNext (stops_mapInert hlen) fun hs => ?_
  rw [effect_mapInert hs hr hwrite halert fun v => hset v _, replyOf_mapInert hread hentry]
  rfl

end

/-- Settles O46: an access goes to the entry that CSID selects, and a set there commutes with a set elsewhere. -/
theorem tableEntriesAreIndependent : Obligations.TableEntriesAreIndependent := by
  refine ⟨fun i s j w hr hj => ?_, fun i s t j hr hj h => ?_, fun s t v hge h => ?_⟩
  · exact exec_mapInert (c := id) (a := id) (g := (·.set j w)) hr (fun _ _ => rfl) (fun _ _ => rfl)
      (fun v _ => List.set_comm w v hj) (fun _ => rfl) List.length_set (List.getElem?_set_ne hj)
  · obtain ⟨-, -, -, -, -, hframe, -⟩ := registersChangeOnlyByTheirWriters i s t h hr
    by_cases hw : Writes .configopts i
    · obtain ⟨v, rfl : i = .wrConfigopts v⟩ := hw
      obtain ⟨-, rfl⟩ := exec_next h
      exact List.getElem?_set_ne hj.symm
    · rw [hframe hw]
  · rw [exec_wrCsid, effect_wrCsid_of_ge hge] at h
    cases h
    rfl

/-- Settles O59: `exec_mapInert` for two constant words. -/
theorem controlAndAlertTestInfluenceNothing : Obligations.ControlAndAlertTestInfluenceNothing :=
  fun _ _ c a hrd hwc hwa hr => exec_mapInert (c := fun _ => c) (a := fun _ => a) (g := id) hr
    (fun v hv => absurd ⟨v, hv⟩ hwc) (fun v hv => absurd ⟨v, hv⟩ hwa) (fun _ _ => rfl) (fun h => absurd h hrd)
    rfl rfl

end Sys2Proof.Machine
end

-- ==== Proofs of the family other: RESET (O54, O55, O56) ====
section
/-! PROOF. The state after RESET and what the host reads in it (70_reset_and_hazards.md R260, R261, R262). -/

namespace Sys2Proof.Machine

open Sys2Proof.Claims

theorem exec_reset (s : State) : exec .reset s = .next { State.resetOf s.cfg with
    xlog := s.xlog, diags := s.diags, answers := s.answers, inbox := s.inbox } :=
  exec_of_not_stops (i := .reset) id

/-- Settles O54: RESET is `State.resetOf` but for the logs and the model's own fields. -/
theorem resetRestoresEveryField : Obligations.ResetRestoresEveryField :=
  fun s => ⟨decode_kindCode_reset s.cfg, exec_reset s, rfl, rfl, rfl, rfl, rfl, rfl, rfl, rfl, rfl, rfl, rfl, rfl,
    rfl, rfl⟩

/-- STATUS after RESET: both queues empty, hence not full, and the engine READY. -/
theorem statusWord_of_reset {s : State} (h : s.cfg.wf = true) (hlay : s.cfg.layout = defaultLayout)
    (htx : s.tx = []) (hrx : s.rx = []) (hready : s.engine = .ready) : statusWord s = 0x91000000#32 := by
  obtain ⟨-, htxcap, hrxcap⟩ := numCs_caps_pos h
  refine BitVec.eq_of_toNat_eq ?_
  rw [statusWord_toNat hlay]
  simp [statusTxqd, statusRxqd, qd, statusRxempty, statusRxfull, statusTxempty, statusTxfull, statusReady, htx, hrx,
    hready, show (0 : Nat) ≠ s.cfg.txCap by omega, show (0 : Nat) ≠ s.cfg.rxCap by omega]

/-- The reset column of R24. -/
theorem replyOf_read_of_reset {s t : State} (r : Reg) (h : s.cfg.wf = true) (hlay : s.cfg.layout = defaultLayout)
    (hreset : exec .reset s = .next t) :
    replyOf (Instr.read r) t = some (match r with
      | .control => 0x0000007F#32
      | .status => 0x91000000#32
      | .errorEnable => 0x0000001F#32
      | _ => 0#32) := by
  rw [exec_reset] at hreset
  cases hreset
  cases r
  case status => exact congrArg some (statusWord_of_reset h hlay rfl rfl rfl)
  case configopts => exact List.getElem?_replicate_of_lt (numCs_caps_pos h).1
  all_goals rfl

/-- Settles O55: the reply of each read in the reset state, whose table holds zeros only. -/
theorem readsAfterResetReturnTheResetValues : Obligations.ReadsAfterResetReturnTheResetValues := by
  intro s t u r h hlay hreset
  refine ⟨fun hread => ?_, fun v a b hv ha hb => ?_⟩
  · obtain ⟨-, rfl⟩ := exec_next hread
    exact replyOf_read_of_reset r h hlay hreset
  · rw [exec_reset] at hreset
    cases hreset
    rw [exec_wrCsid, effect_wrCsid_of_lt (by exact hv)] at ha
    cases ha
    obtain ⟨-, rfl⟩ := exec_next hb
    exact List.getElem?_replicate_of_lt hv

/-- Settles O56: the engine is READY after RESET. -/
theorem resetCancelsThePendingCompletion : Obligations.ResetCancelsThePendingCompletion := by
  intro s t v hreset
  rw [exec_reset] at hreset
  cases hreset
  refine ⟨exec_complete_of_ready rfl, rfl, rfl, _, exec_wrCommand _ v, ?_, ?_⟩
  · rw [effect_wrCommand_of_ready rfl, evaluate_command, acceptCommand_command]
  · rw [effect_wrCommand_of_ready rfl, acceptCommand_eq]
    rfl

end Sys2Proof.Machine
end
